-- ==== Sys2Proof/Word.lean ====
section
/-! DEFINITION. The two word types of the machine (00_scope.md R5: XLEN = 8, ALEN = 16; arithmetic on them wraps, R6). -/

namespace Sys2Proof

/-- A byte: a register, a memory cell, the status byte (R5, XLEN = 8). -/
abbrev Byte := BitVec 8

/-- A 16-bit word: the program counter and every bus address (R5, ALEN = 16). -/
abbrev Word := BitVec 16

end Sys2Proof
end

