-- ==== Sys2Proof/Machine/Params.lean ====
section
/-! DEFINITION. The constants of 00_scope.md R5 and the fixed tables of 60_exceptions.md R347, R348. -/

namespace Sys2Proof.Machine

/-- `NMI_VECTOR` (R5). -/
def nmiVector : Word := 0xFFFA

/-- `RESET_VECTOR` (R5). -/
def resetVector : Word := 0xFFFC

/-- `IRQ_VECTOR`, of IRQ and BRK (R5). -/
def irqVector : Word := 0xFFFE

/-- `RESET_SP` (R5, D2). -/
def resetSp : Byte := 0xFD

/-- `RESET_P` (R5, D3). -/
def resetP : Byte := 0x24

/-- The page of the stack: `STACK_BASE` = 0x0100 (R5, R22). -/
def stackPage : Byte := 0x01

/-- `RAM_SIZE` (R5). -/
def ramSize : Nat := 2048

/-- `PRG_RAM_SIZE` (R5). -/
def prgRamSize : Nat := 8192

/-- The size of a program bank (R5, R85). -/
def prgBankSize : Nat := 0x4000

/-- The size of a graphics bank (R86). -/
def chrBankSize : Nat := 0x1000

/-- `CPU_FREQ` in Hz (R5, R396). -/
def cpuFreq : Nat := 1789773

/-- `FRAME_DIV` (R5, R352). -/
def frameRate : Nat := 240

/-- `SAMPLE_RATE` (R5, R352). -/
def sampleRate : Nat := 44100

/-- `LENGTH_TABLE` (R347). -/
def lengthTable : List (BitVec 8) :=
  [10, 254, 20, 2, 40, 4, 80, 6, 160, 8, 60, 10, 14, 12, 26, 14] ++
    [12, 16, 24, 18, 48, 20, 96, 22, 192, 24, 72, 26, 16, 28, 32, 30]

/-- `DUTY` (R348): row `d`, position `i`. -/
def dutyTable : List (List Bool) :=
  [ [false, true, false, false, false, false, false, false],
    [false, true, true, false, false, false, false, false],
    [false, true, true, true, true, false, false, false],
    [true, false, false, true, true, true, true, true] ]

/-- `TRI_SEQ` (R348). -/
def triSeq : List Nat :=
  [15, 14, 13, 12, 11, 10, 9, 8, 7, 6, 5, 4, 3, 2, 1, 0] ++ [0, 1, 2, 3, 4, 5, 6, 7, 8, 9, 10, 11, 12, 13, 14, 15]

/-- `NOISE_PERIOD`, in CPU cycles (R348). -/
def noisePeriod : List Nat := [4, 8, 16, 32, 64, 96, 128, 160, 202, 254, 380, 508, 762, 1016, 2034, 4068]

/-- `DMC_RATE`, in CPU cycles (R348). -/
def dmcRate : List Nat := [428, 380, 340, 320, 286, 254, 226, 214, 190, 160, 142, 128, 106, 84, 72, 54]

end Sys2Proof.Machine
end

