-- ==== Sys2Proof/Config.lean ====
section
/-! DEFINITION. What the spec leaves free or to an implementation: free values (opaque, no proof can see one)
and the byte that memory nothing has written reads as. The spec's own constants stand in Machine/Params.lean. -/

namespace Sys2Proof

/-- `OPEN_BUS` (20_memory.md R59, D12): the byte returned by the n-th free read. A free value: safe (log entry 4). -/
opaque Config.openBus : Nat → BitVec 8

/-- The byte the environment answers to a port read when `State.portInputs` holds none (R56, R57, U3).
A free value: safe (log entry 5). -/
opaque Config.portByte : Nat → BitVec 8

/-- What a byte of any memory reads as while nothing has been placed there. DESIGN CHOICE, unsafe (log entry 2):
the spec leaves power-on contents unspecified (10_state.md R36, D5). -/
def Config.unlistedByte : Byte := 0

end Sys2Proof
end

