-- ==== Sys2Proof/Machine/State.lean ====
section
/-! DEFINITION. The machine's state as plain data: everything the spec gives the machine (10_state.md, 20_memory.md,
60_exceptions.md part 4), the launch parameters of 00_scope.md R5, and the environment's inputs and outputs; the
reasons a step can stop; and the state right after power-on and the first reset. -/

namespace Sys2Proof.Machine

/-- A byte store: (offset, byte) pairs, offsets strictly rising, no byte equal to `Config.unlistedByte`
(`Memory.wf` in Machine/Memory.lean says so). -/
abbrev Memory := List Host.Cell

/-- The seven flags, each one bit of state of its own (R23). `i` is interrupt-disable, `n` the flag the source calls sign. -/
structure Flags where
  c : Bool
  z : Bool
  i : Bool
  d : Bool
  b : Bool
  v : Bool
  n : Bool
  deriving DecidableEq, Repr

/-- The fatal engine errors that can occur (R301, R305). The source's other three (R302, R303, R304) are
unreachable and have no constructor (log entry 8). -/
inductive FatalError where
  /-- R301: the opcode byte fetched has no handler. -/
  | unsupportedOpcode (op : Byte)
  /-- R305: a push at SP = 0x00 or a pop at SP = 0xFF under `STACK_POLICY = fatal`. -/
  | stackExhaustion
  deriving DecidableEq, Repr

/-- The record a fatal error keeps: the reason and the "full register/PC context" at the raise (R300). -/
structure HaltRecord where
  error : FatalError
  pc : Word
  a : Byte
  x : Byte
  y : Byte
  sp : Byte
  p : Byte
  deriving DecidableEq, Repr

/-- The five mirroring modes (R30, R76). -/
inductive Mirroring where
  | horizontal
  | vertical
  | singleScreen0
  | singleScreen1
  | fourScreen
  deriving DecidableEq, Repr

/-- The mapper variants the spec describes (R5, R75); any other is rejected by the loader (R89, U8). -/
inductive MapperVariant where
  | fixedBank
  | switchable
  deriving DecidableEq, Repr

/-- The cartridge: what the loader deposits (R75) and the mapper's registers (R79). -/
structure Cart where
  variant : MapperVariant
  /-- `len(PRG)`. -/
  prgLen : Nat
  prg : Memory
  /-- `N_PRG_BANKS`, `len(PRG) / 16384` (R5). -/
  nPrgBanks : Nat
  /-- `len(CHR)`. -/
  chrLen : Nat
  chr : Memory
  /-- The cartridge's graphics memory is RAM (R87). -/
  chrIsRam : Bool
  /-- `HAS_PRG_RAM`. -/
  hasPrgRam : Bool
  prgRam : Memory
  mirror : Mirroring
  control : BitVec 5
  chrBank0 : BitVec 5
  chrBank1 : BitVec 5
  prgBank : BitVec 5
  shift : BitVec 5
  /-- The serial port's write counter, 0 to 4. -/
  count : Fin 5
  deriving DecidableEq, Repr

/-- What the cartridge loader deposits before the machine exists (R5, R75, R381); `N_PRG_BANKS` follows from `len(PRG)`. -/
structure Loaded where
  variant : MapperVariant
  /-- `len(PRG)`. -/
  prgLen : Nat
  prg : Memory
  /-- `len(CHR)`. -/
  chrLen : Nat
  chr : Memory
  /-- The cartridge's graphics memory is RAM (R87). -/
  chrIsRam : Bool
  /-- `HAS_PRG_RAM`. -/
  hasPrgRam : Bool
  /-- What the battery RAM holds at power-on (R36). -/
  prgRam : Memory
  /-- `MIRRORING`. -/
  mirror : Mirroring
  deriving DecidableEq, Repr

/-- The volume envelope of a pulse or noise channel (R331, R333). `halt` is the length-counter halt, the same bit as
the envelope's loop flag. -/
structure Envelope where
  halt : Bool
  constVol : Bool
  vol : BitVec 4
  start : Bool
  divider : BitVec 4
  decay : BitVec 4
  deriving DecidableEq, Repr

/-- A pulse channel (R331). -/
structure Pulse where
  enabled : Bool
  duty : BitVec 2
  dutyPos : BitVec 3
  timerPeriod : BitVec 11
  timerCounter : BitVec 11
  length : BitVec 8
  env : Envelope
  sweepEnable : Bool
  sweepPeriod : BitVec 3
  sweepNegate : Bool
  sweepShift : BitVec 3
  sweepReload : Bool
  sweepDivider : BitVec 3
  deriving DecidableEq, Repr

/-- The triangle channel (R332). -/
structure Triangle where
  enabled : Bool
  timerPeriod : BitVec 11
  timerCounter : BitVec 11
  seqPos : BitVec 5
  length : BitVec 8
  control : Bool
  linearReloadValue : BitVec 7
  linear : BitVec 7
  linearReload : Bool
  deriving DecidableEq, Repr

/-- The noise channel (R333). -/
structure Noise where
  enabled : Bool
  mode : Bool
  timerPeriod : BitVec 12
  timerCounter : BitVec 12
  lfsr : BitVec 15
  length : BitVec 8
  env : Envelope
  deriving DecidableEq, Repr

/-- The delta-modulation channel (R334). -/
structure Dmc where
  irqEnable : Bool
  loop : Bool
  timerPeriod : BitVec 8
  timerCounter : BitVec 8
  level : BitVec 7
  sampleAddr : Word
  sampleLen : BitVec 12
  curAddr : Word
  bytesLeft : BitVec 12
  shift : Byte
  bitsLeft : BitVec 4
  deriving DecidableEq, Repr

/-- One filter stage's memory (R335, R359), in fixed point (log entry 10). -/
structure FilterMem where
  xPrev : Int
  yPrev : Int
  deriving DecidableEq, Repr

/-- The audio unit (R330 to R335). -/
structure Apu where
  pulse1 : Pulse
  pulse2 : Pulse
  tri : Triangle
  noise : Noise
  dmc : Dmc
  frameMode : Bool
  frameInhibit : Bool
  frameStep : BitVec 3
  frameIrq : Bool
  dmcIrq : Bool
  apuCycle : Nat
  hp1 : FilterMem
  hp2 : FilterMem
  lp : FilterMem
  deriving DecidableEq, Repr

/-- What happens when the stack pointer would pass an end of the stack (R64). -/
inductive StackPolicy where
  | wrap
  | fatal
  deriving DecidableEq, Repr

/-- The launch parameters the spec names as arguments of the model (R5, U5, U7), fixed while the machine runs
(log entry 9). -/
structure Params where
  stackPolicy : StackPolicy
  /-- `UNDOC_SET` is the 80 opcodes of R265 (true) or empty (false). -/
  undocSet : Bool
  deriving DecidableEq, Repr

/-- An event the environment may deliver between two CPU steps (R386, R387). -/
inductive Event where
  /-- `NmiRequest` (R306). -/
  | nmiRequest
  /-- The level of the external IRQ input changes to `level` (R308). -/
  | extIrq (level : Bool)
  /-- `Reset()` (R380). -/
  | reset
  /-- The scanline signal, ignored by both mappers (R90). -/
  | scanline
  /-- The graphics unit reads graphics address `a` through the mapper (R87). -/
  | chrRead (a : BitVec 13)
  /-- The graphics unit writes `v` at graphics address `a` through the mapper (R87). -/
  | chrWrite (a : BitVec 13) (v : Byte)
  /-- The graphics unit asks for the physical slot of nametable `i` (R76). -/
  | nametable (i : Fin 4)
  deriving DecidableEq, Repr

/-- What the machine delivers to the environment (R56 to R58, R87, R358, R387). -/
inductive Output where
  /-- A read of graphics-unit register `reg`, answered with `v` (R56). -/
  | ppuRead (reg : BitVec 3) (v : Byte)
  | ppuWrite (reg : BitVec 3) (v : Byte)
  /-- A read of controller port 1 (`second` false) or 2 (true), answered with `v` (R57). -/
  | controllerRead (second : Bool) (v : Byte)
  | controllerStrobe (v : Byte)
  /-- `SpriteDmaDeliver`: the 256 bytes in ascending order (R58). -/
  | spriteDma (bytes : List Byte)
  | chrAnswer (a : BitVec 13) (v : Byte)
  | nametableAnswer (i : Fin 4) (slot : Fin 4)
  /-- `AudioSample`, in fixed point (R358, log entry 10). -/
  | audioSample (v : Int)
  deriving DecidableEq, Repr

/-- The whole machine. -/
structure State where
  /-- Accumulator (R20). -/
  a : Byte
  /-- Index X (R20). -/
  x : Byte
  /-- Index Y (R20). -/
  y : Byte
  /-- Stack pointer (R22). -/
  sp : Byte
  /-- Program counter (R21). -/
  pc : Word
  flags : Flags
  /-- The NMI latch (R27, R306). -/
  nmiPending : Bool
  /-- `some` once a fatal engine error has occurred (R27, R300). -/
  halted : Option HaltRecord
  /-- CPU cycles owed to the delta-modulation reader (R27, R349). -/
  stall : Nat
  /-- CPU cycles elapsed since reset (R27). -/
  cycles : Nat
  /-- APU steps owed before the next CPU step (R386). -/
  apuOwed : Nat
  /-- `extra_cycles` of the CPU step under way (R58, R394; log entry 18). -/
  extraCycles : Nat
  /-- The level of the external IRQ input (R27, R308). -/
  extIrq : Bool
  /-- The 2 KiB of RAM, by offset (R29, R55). -/
  ram : Memory
  cart : Cart
  apu : Apu
  params : Params
  /-- The events the environment delivers at the coming step boundaries, the next one first (log entry 6). -/
  boundaries : List (List Event)
  /-- The bytes the environment answers to the coming port reads, the next one first (log entry 5). -/
  portInputs : List Byte
  /-- Everything delivered to the environment, newest first (log entry 11). -/
  outputs : List Output
  /-- How many free values have been drawn (the model's own counter, log entry 4). -/
  draws : Nat
  deriving DecidableEq, Repr

/-- Why a step stops. -/
inductive Fault where
  /-- Raised by `step` alone, when the machine is halted and no Reset arrives at this boundary (R384, U19: stuck).
  Safe: the spec gives a halted machine no other transition. -/
  | halted (r : HaltRecord)
  deriving DecidableEq, Repr

/-- Why an instruction has no meaning in the model. -/
inductive Refusal where
  /-- Raised by an arm of `exec` whose instruction has no meaning yet; no arm raises it any more. Safe. -/
  | notModelled (mnemonic : String)
  deriving DecidableEq, Repr

/-- Power-on envelope (R336). -/
def Envelope.powerOn : Envelope :=
  { halt := false, constVol := false, vol := 0, start := false, divider := 0, decay := 0 }

/-- Power-on pulse channel (R336). -/
def Pulse.powerOn : Pulse :=
  { enabled := false, duty := 0, dutyPos := 0, timerPeriod := 0, timerCounter := 0, length := 0
    env := Envelope.powerOn, sweepEnable := false, sweepPeriod := 0, sweepNegate := false, sweepShift := 0
    sweepReload := false, sweepDivider := 0 }

/-- Power-on audio unit (R336): every field 0 but `noise.lfsr` = 1 and `dmc.timer_period` = 213. -/
def Apu.powerOn : Apu :=
  { pulse1 := Pulse.powerOn
    pulse2 := Pulse.powerOn
    tri :=
      { enabled := false, timerPeriod := 0, timerCounter := 0, seqPos := 0, length := 0, control := false
        linearReloadValue := 0, linear := 0, linearReload := false }
    noise :=
      { enabled := false, mode := false, timerPeriod := 0, timerCounter := 0, lfsr := 1, length := 0
        env := Envelope.powerOn }
    dmc :=
      { irqEnable := false, loop := false, timerPeriod := 213, timerCounter := 0, level := 0, sampleAddr := 0
        sampleLen := 0, curAddr := 0, bytesLeft := 0, shift := 0, bitsLeft := 0 }
    frameMode := false, frameInhibit := false, frameStep := 0, frameIrq := false, dmcIrq := false, apuCycle := 0
    hp1 := { xPrev := 0, yPrev := 0 }, hp2 := { xPrev := 0, yPrev := 0 }, lp := { xPrev := 0, yPrev := 0 } }

/-- The deposit behind `State.reset`: a blank fixed-bank board with 32 KiB of program ROM, 8 KiB of graphics RAM and battery RAM
(DESIGN CHOICE, unsafe, log entry 3). -/
def Loaded.blank : Loaded :=
  { variant := .fixedBank, prgLen := 32768, prg := [], chrLen := 8192, chr := [], chrIsRam := true, hasPrgRam := true
    prgRam := [], mirror := .horizontal }

/-- The cartridge of `State.reset`: that deposit, its mapper registers at their power-on values (R36). The statement `PowerOn`
says that it is what the power-on makes of `Loaded.blank`. -/
def Cart.blank : Cart :=
  { variant := .fixedBank, prgLen := 32768, prg := [], nPrgBanks := 2, chrLen := 8192, chr := [], chrIsRam := true
    hasPrgRam := true, prgRam := [], mirror := .horizontal, control := 0x0C, chrBank0 := 0, chrBank1 := 0
    prgBank := 0, shift := 0, count := 0 }

/-- The machine after power-on and the first reset (R36, R380), with the blank cartridge. `A`, `X`, `Y` are 0
(DESIGN CHOICE, unsafe, log entry 1). `PC` is `Read16(0xFFFC)` of that cartridge, 0x0000. The
statement `PowerOn` says that this state is what the reset procedure makes of the powered-on machine. -/
def State.reset : State :=
  { a := 0, x := 0, y := 0, sp := 0xFD, pc := 0x0000
    flags := { c := false, z := false, i := true, d := false, b := false, v := false, n := false }
    nmiPending := false, halted := none, stall := 0, cycles := 0, apuOwed := 0, extraCycles := 0, extIrq := false
    ram := [], cart := Cart.blank, apu := Apu.powerOn, params := { stackPolicy := .wrap, undocSet := true }
    boundaries := [], portInputs := [], outputs := [], draws := 0 }

end Sys2Proof.Machine
end

