-- ==== Sys2Proof/Machine/Apu.lean ====
section
/-! DEFINITION. The audio unit but for its bus reader: envelope, sweep, length and linear counters, the frame sequencer, the
channel timers, the register writes and the status read (60_exceptions.md part 4, R337 to R355). -/

namespace Sys2Proof.Machine

/-- `clock_envelope` (R350). -/
def Envelope.clock (e : Envelope) : Envelope :=
  if e.start then { e with start := false, decay := 15, divider := e.vol }
  else if e.divider = 0 then
    { e with
      divider := e.vol
      decay := if e.decay ≠ 0 then e.decay - 1 else if e.halt then 15 else e.decay }
  else { e with divider := e.divider - 1 }

/-- `volume` (R350). -/
def Envelope.volume (e : Envelope) : BitVec 4 := if e.constVol then e.vol else e.decay

/-- `clock_length` on a counter (R354). -/
def clockLength (halt : Bool) (length : BitVec 8) : BitVec 8 :=
  if halt = false ∧ length ≠ 0 then length - 1 else length

/-- `clock_linear` (R354). -/
def Triangle.clockLinear (t : Triangle) : Triangle :=
  { t with
    linear := if t.linearReload then t.linearReloadValue else if t.linear ≠ 0 then t.linear - 1 else t.linear
    linearReload := t.control && t.linearReload }

/-- `change(p)` (R351). -/
def Pulse.sweepChange (p : Pulse) : Nat := p.timerPeriod.toNat >>> p.sweepShift.toNat

/-- `target(p)`, a negative target taken as 0; `first` says that `p` is pulse1 (R351). -/
def Pulse.sweepTarget (first : Bool) (p : Pulse) : Nat :=
  if p.sweepNegate then p.timerPeriod.toNat - p.sweepChange - (if first then 1 else 0)
  else p.timerPeriod.toNat + p.sweepChange

/-- `muted(p)` (R351). -/
def Pulse.muted (first : Bool) (p : Pulse) : Bool :=
  decide (p.timerPeriod.toNat < 8) || decide (0x7FF < p.sweepTarget first)

/-- `clock_sweep` (R351). -/
def Pulse.clockSweep (first : Bool) (p : Pulse) : Pulse :=
  { p with
    timerPeriod :=
      if p.sweepDivider = 0 ∧ p.sweepEnable = true ∧ p.sweepShift ≠ 0 ∧ p.muted first = false then
        BitVec.ofNat 11 (p.sweepTarget first)
      else p.timerPeriod
    sweepDivider := if p.sweepDivider = 0 ∨ p.sweepReload = true then p.sweepPeriod else p.sweepDivider - 1
    sweepReload := if p.sweepDivider = 0 ∨ p.sweepReload = true then false else p.sweepReload }

/-- `clock_envelopes`: the three envelopes and the linear counter (R350). -/
def Apu.clockEnvelopes (u : Apu) : Apu :=
  { u with
    pulse1 := { u.pulse1 with env := u.pulse1.env.clock }
    pulse2 := { u.pulse2 with env := u.pulse2.env.clock }
    noise := { u.noise with env := u.noise.env.clock }
    tri := u.tri.clockLinear }

/-- `clock_sweeps` (R351). -/
def Apu.clockSweeps (u : Apu) : Apu :=
  { u with pulse1 := u.pulse1.clockSweep true, pulse2 := u.pulse2.clockSweep false }

/-- `clock_lengths` (R354). -/
def Apu.clockLengths (u : Apu) : Apu :=
  { u with
    pulse1 := { u.pulse1 with length := clockLength u.pulse1.env.halt u.pulse1.length }
    pulse2 := { u.pulse2 with length := clockLength u.pulse2.env.halt u.pulse2.length }
    tri := { u.tri with length := clockLength u.tri.control u.tri.length }
    noise := { u.noise with length := clockLength u.noise.env.halt u.noise.length } }

/-- What a frame step clocks: E, S and L together, IRQ (R355). -/
structure FrameActions where
  envelopes : Bool
  sweepsAndLengths : Bool
  irq : Bool
  deriving DecidableEq, Repr

/-- `ACTIONS[frame_mode][frame_step]` (R355); a step outside the table clocks nothing (log entry 14). -/
def frameActions (mode : Bool) (step : BitVec 3) : FrameActions :=
  match mode, step.toNat with
  | false, 0 => { envelopes := true, sweepsAndLengths := false, irq := false }
  | false, 1 => { envelopes := true, sweepsAndLengths := true, irq := false }
  | false, 2 => { envelopes := true, sweepsAndLengths := false, irq := false }
  | false, 3 => { envelopes := true, sweepsAndLengths := true, irq := true }
  | true, 0 => { envelopes := true, sweepsAndLengths := false, irq := false }
  | true, 1 => { envelopes := true, sweepsAndLengths := true, irq := false }
  | true, 2 => { envelopes := true, sweepsAndLengths := false, irq := false }
  | true, 3 => { envelopes := false, sweepsAndLengths := false, irq := false }
  | true, 4 => { envelopes := true, sweepsAndLengths := true, irq := false }
  | _, _ => { envelopes := false, sweepsAndLengths := false, irq := false }

/-- The number of frame steps of a mode (R355). -/
def frameSteps (mode : Bool) : Nat := if mode then 5 else 4

/-- `frame_clock` (R355). -/
def Apu.frameClock (u : Apu) : Apu :=
  let act := frameActions u.frameMode u.frameStep
  let e := if act.envelopes then u.clockEnvelopes else u
  let l := if act.sweepsAndLengths then e.clockSweeps.clockLengths else e
  { l with
    frameIrq := u.frameIrq || (act.irq && !u.frameInhibit)
    frameStep := BitVec.ofNat 3 ((u.frameStep.toNat + 1) % frameSteps u.frameMode) }

/-- `clock_timer` of a pulse channel (R353). -/
def Pulse.clockTimer (p : Pulse) : Pulse :=
  if p.timerCounter = 0 then { p with timerCounter := p.timerPeriod, dutyPos := p.dutyPos + 1 }
  else { p with timerCounter := p.timerCounter - 1 }

/-- `clock_timer` of the triangle (R353). -/
def Triangle.clockTimer (t : Triangle) : Triangle :=
  if t.timerCounter = 0 then
    { t with
      timerCounter := t.timerPeriod
      seqPos := if t.length ≠ 0 ∧ t.linear ≠ 0 then t.seqPos + 1 else t.seqPos }
  else { t with timerCounter := t.timerCounter - 1 }

/-- The noise shift register after one shift (R353). -/
def Noise.shifted (n : Noise) : BitVec 15 :=
  let fb := n.lfsr.getLsbD 0 ^^ (if n.mode then n.lfsr.getLsbD 6 else n.lfsr.getLsbD 1)
  (n.lfsr >>> 1) ||| ((BitVec.ofBool fb).setWidth 15 <<< 14)

/-- `clock_timer` of the noise channel (R353). -/
def Noise.clockTimer (n : Noise) : Noise :=
  if n.timerCounter = 0 then { n with timerCounter := n.timerPeriod, lfsr := n.shifted }
  else { n with timerCounter := n.timerCounter - 1 }

/-- `fire(dmc)`: one output bit (R353). -/
def Dmc.fire (d : Dmc) : Dmc :=
  if d.bitsLeft = 0 then d
  else
    { d with
      level :=
        if d.shift.getLsbD 0 then (if d.level.toNat ≤ 125 then d.level + 2 else d.level)
        else if 2 ≤ d.level.toNat then d.level - 2
        else d.level
      shift := d.shift >>> 1
      bitsLeft := d.bitsLeft - 1 }

/-- `clock_timer` of the delta-modulation channel, after its reader (R353). -/
def Dmc.clockTimer (d : Dmc) : Dmc :=
  if d.timerCounter = 0 then { d with timerCounter := d.timerPeriod }.fire
  else { d with timerCounter := d.timerCounter - 1 }

/-- `LENGTH_TABLE[v[7:3]]` (R340, R347). -/
def lengthOf (v : Byte) : BitVec 8 := lengthTable.getD (v.toNat / 8) 0

/-- The envelope fields of a control byte `--LC VVVV` (R337, R342). -/
def Envelope.control (e : Envelope) (v : Byte) : Envelope :=
  { e with halt := v.getLsbD 5, constVol := v.getLsbD 4, vol := v.extractLsb' 0 4 }

/-- 0x4000 / 0x4004 (R337). -/
def Pulse.writeControl (p : Pulse) (v : Byte) : Pulse :=
  { p with duty := v.extractLsb' 6 2, env := p.env.control v }

/-- 0x4001 / 0x4005 (R338). -/
def Pulse.writeSweep (p : Pulse) (v : Byte) : Pulse :=
  { p with
    sweepEnable := v.getLsbD 7, sweepPeriod := v.extractLsb' 4 3, sweepNegate := v.getLsbD 3
    sweepShift := v.extractLsb' 0 3, sweepReload := true }

/-- 0x4002 / 0x4006 (R339). -/
def Pulse.writeTimerLow (p : Pulse) (v : Byte) : Pulse :=
  { p with timerPeriod := p.timerPeriod.extractLsb' 8 3 ++ v }

/-- 0x4003 / 0x4007 (R340). -/
def Pulse.writeTimerHigh (p : Pulse) (v : Byte) : Pulse :=
  { p with
    timerPeriod := v.extractLsb' 0 3 ++ p.timerPeriod.extractLsb' 0 8
    length := if p.enabled then lengthOf v else p.length
    dutyPos := 0
    env := { p.env with start := true } }

/-- 0x4008 (R341). -/
def Triangle.writeLinear (t : Triangle) (v : Byte) : Triangle :=
  { t with control := v.getLsbD 7, linearReloadValue := v.extractLsb' 0 7 }

/-- 0x400A (R341). -/
def Triangle.writeTimerLow (t : Triangle) (v : Byte) : Triangle :=
  { t with timerPeriod := t.timerPeriod.extractLsb' 8 3 ++ v }

/-- 0x400B (R341). -/
def Triangle.writeTimerHigh (t : Triangle) (v : Byte) : Triangle :=
  { t with
    timerPeriod := v.extractLsb' 0 3 ++ t.timerPeriod.extractLsb' 0 8
    length := if t.enabled then lengthOf v else t.length
    linearReload := true }

/-- 0x400C (R342). -/
def Noise.writeControl (n : Noise) (v : Byte) : Noise := { n with env := n.env.control v }

/-- 0x400E (R342). -/
def Noise.writePeriod (n : Noise) (v : Byte) : Noise :=
  { n with mode := v.getLsbD 7, timerPeriod := BitVec.ofNat 12 (noisePeriod.getD (v.toNat % 16) 0 / 2 - 1) }

/-- 0x400F (R342). -/
def Noise.writeLength (n : Noise) (v : Byte) : Noise :=
  { n with length := if n.enabled then lengthOf v else n.length, env := { n.env with start := true } }

/-- 0x4010, the channel's part (R343). -/
def Dmc.writeRate (d : Dmc) (v : Byte) : Dmc :=
  { d with
    irqEnable := v.getLsbD 7, loop := v.getLsbD 6
    timerPeriod := BitVec.ofNat 8 (dmcRate.getD (v.toNat % 16) 0 / 2 - 1) }

/-- 0x4011 (R343). -/
def Dmc.writeLevel (d : Dmc) (v : Byte) : Dmc := { d with level := v.extractLsb' 0 7 }

/-- 0x4012 (R343). -/
def Dmc.writeAddr (d : Dmc) (v : Byte) : Dmc := { d with sampleAddr := BitVec.ofNat 16 (0xC000 + 64 * v.toNat) }

/-- 0x4013 (R343). -/
def Dmc.writeLength (d : Dmc) (v : Byte) : Dmc := { d with sampleLen := BitVec.ofNat 12 (16 * v.toNat + 1) }

/-- Starts the sample over (R344, R349). -/
def Dmc.restart (d : Dmc) : Dmc := { d with curAddr := d.sampleAddr, bytesLeft := d.sampleLen }

/-- Bit 4 of a write to 0x4015 (R344). -/
def Dmc.writeEnable (d : Dmc) (on : Bool) : Dmc :=
  if on then (if d.bytesLeft = 0 then d.restart else d) else { d with bytesLeft := 0 }

/-- A length counter after its channel's enable bit is written (R344). -/
def enableLength (on : Bool) (length : BitVec 8) : BitVec 8 := if on then length else 0

/-- 0x4015 write (R344). -/
def Apu.writeEnables (u : Apu) (v : Byte) : Apu :=
  { u with
    pulse1 := { u.pulse1 with enabled := v.getLsbD 0, length := enableLength (v.getLsbD 0) u.pulse1.length }
    pulse2 := { u.pulse2 with enabled := v.getLsbD 1, length := enableLength (v.getLsbD 1) u.pulse2.length }
    tri := { u.tri with enabled := v.getLsbD 2, length := enableLength (v.getLsbD 2) u.tri.length }
    noise := { u.noise with enabled := v.getLsbD 3, length := enableLength (v.getLsbD 3) u.noise.length }
    dmc := u.dmc.writeEnable (v.getLsbD 4)
    dmcIrq := false }

/-- 0x4017 write (R346). -/
def Apu.writeFrame (u : Apu) (v : Byte) : Apu :=
  let w :=
    { u with
      frameMode := v.getLsbD 7
      frameInhibit := v.getLsbD 6
      frameIrq := u.frameIrq && !v.getLsbD 6
      frameStep := 0 }
  if v.getLsbD 7 then w.clockEnvelopes.clockSweeps.clockLengths else w

/-- `ApuRegWrite(addr, v)`, the register given by its offset from 0x4000 (R337 to R346); an offset with no register, 9 and
0xD among them, changes nothing (R54). -/
def Apu.regWrite (u : Apu) (reg : Nat) (v : Byte) : Apu :=
  match reg with
  | 0x00 => { u with pulse1 := u.pulse1.writeControl v }
  | 0x01 => { u with pulse1 := u.pulse1.writeSweep v }
  | 0x02 => { u with pulse1 := u.pulse1.writeTimerLow v }
  | 0x03 => { u with pulse1 := u.pulse1.writeTimerHigh v }
  | 0x04 => { u with pulse2 := u.pulse2.writeControl v }
  | 0x05 => { u with pulse2 := u.pulse2.writeSweep v }
  | 0x06 => { u with pulse2 := u.pulse2.writeTimerLow v }
  | 0x07 => { u with pulse2 := u.pulse2.writeTimerHigh v }
  | 0x08 => { u with tri := u.tri.writeLinear v }
  | 0x0A => { u with tri := u.tri.writeTimerLow v }
  | 0x0B => { u with tri := u.tri.writeTimerHigh v }
  | 0x0C => { u with noise := u.noise.writeControl v }
  | 0x0E => { u with noise := u.noise.writePeriod v }
  | 0x0F => { u with noise := u.noise.writeLength v }
  | 0x10 => { u with dmc := u.dmc.writeRate v, dmcIrq := u.dmcIrq && v.getLsbD 7 }
  | 0x11 => { u with dmc := u.dmc.writeLevel v }
  | 0x12 => { u with dmc := u.dmc.writeAddr v }
  | 0x13 => { u with dmc := u.dmc.writeLength v }
  | 0x15 => u.writeEnables v
  | 0x17 => u.writeFrame v
  | _ => u

/-- The byte of `ApuStatusRead()` (R345). -/
def Apu.statusByte (u : Apu) : Byte :=
  BitVec.ofBool u.dmcIrq ++ BitVec.ofBool u.frameIrq ++ 0#1 ++ BitVec.ofBool (u.dmc.bytesLeft != 0) ++
    BitVec.ofBool (u.noise.length != 0) ++ BitVec.ofBool (u.tri.length != 0) ++
    BitVec.ofBool (u.pulse2.length != 0) ++ BitVec.ofBool (u.pulse1.length != 0)

/-- The unit after `ApuStatusRead()`: `frame_irq` cleared (R345). -/
def Apu.afterStatusRead (u : Apu) : Apu := { u with frameIrq := false }

end Sys2Proof.Machine
end

