-- ==== Sys2Proof/Machine/Audio.lean ====
section
/-! DEFINITION. The audio output: channel outputs, mixer and filter chain (60_exceptions.md R356 to R359). The rules are over the
reals and leave the number representation open (U16): here a value v stands for v / 2^32 (DESIGN CHOICE, log entry 10). -/

namespace Sys2Proof.Machine

/-- `out(pulse p)` (R356). -/
def Pulse.out (first : Bool) (p : Pulse) : Nat :=
  if p.length = 0 ∨ (dutyTable.getD p.duty.toNat []).getD p.dutyPos.toNat false = false ∨ p.muted first = true then 0
  else p.env.volume.toNat

/-- `out(tri)` (R356). -/
def Triangle.out (t : Triangle) : Nat := triSeq.getD t.seqPos.toNat 0

/-- `out(noise)` (R356). -/
def Noise.out (n : Noise) : Nat := if n.length = 0 ∨ n.lfsr.getLsbD 0 = true then 0 else n.env.volume.toNat

/-- The fixed-point unit, 2^32 (log entry 10). -/
def audioScale : Nat := 4294967296

/-- `PULSE_TABLE[n]` = 95.52 / (8128 / n + 100), in fixed point, rounded down (R357). -/
def pulseTable (n : Nat) : Nat := 9552 * n * audioScale / (812800 + 10000 * n)

/-- `TND_TABLE[n]` = 163.67 / (24329 / n + 100), in fixed point, rounded down (R357). -/
def tndTable (n : Nat) : Nat := 16367 * n * audioScale / (2432900 + 10000 * n)

/-- `mix()` (R357). -/
def Apu.mix (u : Apu) : Nat :=
  pulseTable (u.pulse1.out true + u.pulse2.out false) + tndTable (3 * u.tri.out + 2 * u.noise.out + u.dmc.level.toNat)

/-- The coefficients of a filter stage, in fixed point (R359). -/
structure FilterCoeffs where
  b0 : Int
  b1 : Int
  a1 : Int
  deriving DecidableEq, Repr

/-- The 90 Hz high-pass stage: 0.993629, -0.993629, -0.987259 (R359), rounded to the nearest unit. -/
def hp1Coeffs : FilterCoeffs := { b0 := 4267605910, b1 := -4267605910, a1 := -4240244523 }

/-- The 440 Hz high-pass stage: 0.969608, -0.969608, -0.939216 (R359). -/
def hp2Coeffs : FilterCoeffs := { b0 := 4164434397, b1 := -4164434397, a1 := -4033901497 }

/-- The 14 kHz low-pass stage: 0.499332, 0.499332, -0.001336 (R359). -/
def lpCoeffs : FilterCoeffs := { b0 := 2144614003, b1 := 2144614003, a1 := -5739290 }

/-- One stage's output for input `x` (R359), rounded down. -/
def filterOut (k : FilterCoeffs) (m : FilterMem) (x : Int) : Int :=
  (k.b0 * x + k.b1 * m.xPrev - k.a1 * m.yPrev) / (audioScale : Int)

/-- One stage's memory after input `x` (R359). -/
def filterNext (k : FilterCoeffs) (m : FilterMem) (x : Int) : FilterMem := { xPrev := x, yPrev := filterOut k m x }

/-- The filtered sample `lp(hp2(hp1(mix())))` (R358). -/
def Apu.sample (u : Apu) : Int :=
  filterOut lpCoeffs u.lp (filterOut hp2Coeffs u.hp2 (filterOut hp1Coeffs u.hp1 u.mix))

/-- The unit after a sample: the three stages' memories moved on (R359). -/
def Apu.afterSample (u : Apu) : Apu :=
  let x1 : Int := u.mix
  let x2 := filterOut hp1Coeffs u.hp1 x1
  let x3 := filterOut hp2Coeffs u.hp2 x2
  { u with
    hp1 := filterNext hp1Coeffs u.hp1 x1
    hp2 := filterNext hp2Coeffs u.hp2 x2
    lp := filterNext lpCoeffs u.lp x3 }

end Sys2Proof.Machine
end

