-- ==== Sys2Proof/Machine/Bits.lean ====
section
/-! DEFINITION. Fields of words, extension and byte order (00_scope.md R6, R7; 30_encoding.md R126). -/

namespace Sys2Proof.Machine

/-- `lo(w)`: bits 7 to 0 (R6). -/
def lo (w : Word) : Byte := w.setWidth 8

/-- `hi(w)`: bits 15 to 8 (R6). -/
def hi (w : Word) : Byte := (w >>> 8).setWidth 8

/-- The 16-bit word with high byte `h` and low byte `l` (R6, R50). -/
def word (h l : Byte) : Word := h ++ l

/-- `zext_16(b)` (R7). -/
def zext16 (b : Byte) : Word := b.setWidth 16

/-- `sext_16(b)` (R7). -/
def sext16 (b : Byte) : Word := b.signExtend 16

/-- `page_cross(a, b)`: the two addresses lie in different pages (R126). -/
def pageCross (a b : Word) : Bool := hi a != hi b

end Sys2Proof.Machine
end

