-- ==== Sys2Proof/Machine/Memory.lean ====
section
/-! DEFINITION. The byte stores behind RAM, battery RAM, program and graphics memory (10_state.md R29, R30): reading, writing,
and the canonical form both keep. -/

namespace Sys2Proof.Machine

/-- The byte at offset `k`; `Config.unlistedByte` where none is listed. -/
def Memory.read (m : Memory) (k : Nat) : Byte :=
  match m with
  | [] => Config.unlistedByte
  | (j, v) :: rest => if j = k then v else Memory.read rest k

/-- The store with byte `v` at offset `k`, every other byte as before, in canonical form. -/
def Memory.write (m : Memory) (k : Nat) (v : Byte) : Memory :=
  match m with
  | [] => if v = Config.unlistedByte then [] else [(k, v)]
  | (j, u) :: rest =>
    if k < j then (if v = Config.unlistedByte then (j, u) :: rest else (k, v) :: (j, u) :: rest)
    else if k = j then (if v = Config.unlistedByte then rest else (k, v) :: rest)
    else (j, u) :: Memory.write rest k v

/-- Offsets from `low` on, strictly rising, and no byte equal to what an unlisted offset reads as. -/
def Memory.wfFrom (low : Nat) (m : Memory) : Bool :=
  match m with
  | [] => true
  | (j, v) :: rest => decide (low ≤ j) && v != Config.unlistedByte && Memory.wfFrom (j + 1) rest

/-- The canonical form of a store. -/
def Memory.wf (m : Memory) : Bool := m.wfFrom 0

/-- Every listed offset lies below `size`. -/
def Memory.within (m : Memory) (size : Nat) : Bool := m.all fun cell => decide (cell.1 < size)

end Sys2Proof.Machine
end

