-- ==== Sys2Proof/Machine/Mapper.lean ====
section
/-! DEFINITION. The cartridge mapper (20_memory.md R75 to R90): CPU reads and writes of 0x6000 to 0xFFFF, the serial port, bank
windows, the graphics side and the nametable slots. Every index is reduced modulo its buffer's length (log entry 13).
The offset of an address in a window is its remainder by the window's size: `addr % 0x2000` is `addr - 0x6000` in battery RAM,
`addr % 0x8000` is `addr - 0x8000` in the program window. -/

namespace Sys2Proof.Machine

/-- The mapper at power-on: the loader's deposit, the bank count that follows from its length (R5), and the mapper's registers at
their power-on values (R36, R381). -/
def Cart.load (d : Loaded) : Cart :=
  { variant := d.variant, prgLen := d.prgLen, prg := d.prg, nPrgBanks := d.prgLen / prgBankSize, chrLen := d.chrLen
    chr := d.chr, chrIsRam := d.chrIsRam, hasPrgRam := d.hasPrgRam, prgRam := d.prgRam, mirror := d.mirror
    control := 0x0C, chrBank0 := 0, chrBank1 := 0, prgBank := 0, shift := 0, count := 0 }

/-- The program mode, `control[3:2]` (R84). -/
def Cart.programMode (c : Cart) : BitVec 2 := c.control.extractLsb' 2 2

/-- The graphics mode, `control[4]` (R84). -/
def Cart.graphicsMode (c : Cart) : Bool := c.control.getLsbD 4

/-- `off(k)`: the byte offset of program bank `k`, taken modulo the bank count (R85). -/
def Cart.bankOffset (c : Cart) (k : Nat) : Nat := (k % c.nPrgBanks) * prgBankSize

/-- `prg_off[0]` (`upper` false) and `prg_off[1]` (true) of the switchable board (R85). -/
def Cart.prgOff (c : Cart) (upper : Bool) : Nat :=
  let b : BitVec 4 := c.prgBank.setWidth 4
  if c.programMode = 2 then (if upper then c.bankOffset b.toNat else c.bankOffset 0)
  else if c.programMode = 3 then (if upper then c.bankOffset (c.nPrgBanks - 1) else c.bankOffset b.toNat)
  else if upper then c.bankOffset (b ||| 0x1).toNat
  else c.bankOffset (b &&& 0xE).toNat

/-- The index into `PRG` of a CPU address from 0x8000 on (R77, R80). -/
def Cart.prgIndex (c : Cart) (addr : Word) : Nat :=
  match c.variant with
  | .fixedBank => addr.toNat % 0x8000 % c.prgLen
  | .switchable => (c.prgOff (decide (0xC000 ≤ addr.toNat)) + addr.toNat % 0x4000) % c.prgLen

/-- `MapperCpuRead` of an address from 0x6000 on; none where no device drives the bus (R77, R80). -/
def Cart.cpuRead (c : Cart) (addr : Word) : Option Byte :=
  if addr.toNat < 0x8000 then (if c.hasPrgRam then some (c.prgRam.read (addr.toNat % 0x2000)) else none)
  else some (c.prg.read (c.prgIndex addr))

/-- The mirroring mode of `control[1:0]` (R84). -/
def mirrorOfControl (control : BitVec 5) : Mirroring :=
  match control.getLsbD 1, control.getLsbD 0 with
  | false, false => .singleScreen0
  | false, true => .singleScreen1
  | true, false => .vertical
  | true, true => .horizontal

/-- A write of the control register, which sets `mirror` too (R84). -/
def Cart.setControl (c : Cart) (v : BitVec 5) : Cart := { c with control := v, mirror := mirrorOfControl v }

/-- `Commit(addr, s)`: the fifth write's address, bits 14 and 13, selects the register (R83). -/
def Cart.commit (c : Cart) (addr : Word) (s : BitVec 5) : Cart :=
  match addr.getLsbD 14, addr.getLsbD 13 with
  | false, false => c.setControl s
  | false, true => { c with chrBank0 := s }
  | true, false => { c with chrBank1 := s }
  | true, true => { c with prgBank := s }

/-- A write to the serial port (R82). -/
def Cart.serialWrite (c : Cart) (addr : Word) (v : Byte) : Cart :=
  if v.getLsbD 7 then { c.setControl (c.control ||| 0x0C) with shift := 0, count := 0 }
  else
    let s := c.shift ||| ((BitVec.ofBool (v.getLsbD 0)).setWidth 5 <<< c.count.val)
    if c.count = 4 then { c.commit addr s with shift := 0, count := 0 }
    else { c with shift := s, count := c.count + 1 }

/-- `MapperCpuWrite` of an address from 0x6000 on (R78, R81, R82). -/
def Cart.cpuWrite (c : Cart) (addr : Word) (v : Byte) : Cart :=
  if addr.toNat < 0x8000 then
    (if c.hasPrgRam then { c with prgRam := c.prgRam.write (addr.toNat % 0x2000) v } else c)
  else
    match c.variant with
    | .fixedBank => c
    | .switchable => c.serialWrite addr v

/-- `coff(k)` of graphics bank `k` (R86). -/
def Cart.chrOffset (c : Cart) (k : Nat) : Nat := (k % max 1 (c.chrLen / chrBankSize)) * chrBankSize

/-- `chr_off[0]` (`upper` false) and `chr_off[1]` (true) of the switchable board (R86). -/
def Cart.chrOff (c : Cart) (upper : Bool) : Nat :=
  if c.graphicsMode then c.chrOffset (if upper then c.chrBank1 else c.chrBank0).toNat
  else c.chrOffset (if upper then c.chrBank0 ||| 0x01 else c.chrBank0 &&& 0x1E).toNat

/-- The index into `CHR` of a graphics address (R87). -/
def Cart.chrIndex (c : Cart) (a : BitVec 13) : Nat :=
  match c.variant with
  | .fixedBank => a.toNat % c.chrLen
  | .switchable => (c.chrOff (decide (0x1000 ≤ a.toNat)) + a.toNat % 0x1000) % c.chrLen

/-- `MapperChrRead` (R87). -/
def Cart.chrRead (c : Cart) (a : BitVec 13) : Byte := c.chr.read (c.chrIndex a)

/-- `MapperChrWrite`: stores if graphics memory is RAM, else nothing (R87). -/
def Cart.chrWrite (c : Cart) (a : BitVec 13) (v : Byte) : Cart :=
  if c.chrIsRam then { c with chr := c.chr.write (c.chrIndex a) v } else c

/-- `NametableSlot(i)` (R76). -/
def nametableSlot (m : Mirroring) (i : Fin 4) : Fin 4 :=
  match m with
  | .horizontal => if i.val < 2 then 0 else 1
  | .vertical => if i.val % 2 = 0 then 0 else 1
  | .singleScreen0 => 0
  | .singleScreen1 => 1
  | .fourScreen => i

end Sys2Proof.Machine
end

