-- ==== Sys2Proof/Machine/Bus.lean ====
section
/-! DEFINITION. The bus decoder (20_memory.md R53 to R60): byte reads and writes over the 16-bit space, with their side effects,
the environment's ports, open bus and the sprite DMA. -/

namespace Sys2Proof.Machine

/-- The parts of the bus address space (R53, R54). -/
inductive Region where
  | ram
  /-- Graphics-unit registers, 0x2000 to 0x3FFF. -/
  | graphics
  /-- Write-only audio registers, 0x4000 to 0x4013. -/
  | audio
  /-- 0x4014. -/
  | spriteDma
  /-- 0x4015. -/
  | audioStatus
  /-- 0x4016. -/
  | controller
  /-- 0x4017: controller port 2 when read, the frame sequencer when written. -/
  | frame
  /-- 0x4018 to 0x5FFF. -/
  | unmapped
  | cartridge
  deriving DecidableEq, Repr

/-- The decoder (R53, R54). -/
def region (addr : Word) : Region :=
  if addr.toNat < 0x2000 then .ram
  else if addr.toNat < 0x4000 then .graphics
  else if addr.toNat < 0x4014 then .audio
  else if addr.toNat = 0x4014 then .spriteDma
  else if addr.toNat = 0x4015 then .audioStatus
  else if addr.toNat = 0x4016 then .controller
  else if addr.toNat = 0x4017 then .frame
  else if addr.toNat < 0x6000 then .unmapped
  else .cartridge

/-- The RAM cell of a bus address: mirrors by modulo (R55). -/
def ramOffset (addr : Word) : Nat := addr.toNat % ramSize

/-- The graphics-unit register of a bus address: mirrors by masking (R56). -/
def graphicsReg (addr : Word) : BitVec 3 := addr.setWidth 3

/-- Adds to the record of what was delivered to the environment. -/
def State.deliver (s : State) (o : Output) : State := { s with outputs := o :: s.outputs }

/-- A free byte drawn for a read of an address no device drives (R59). -/
def readOpenBus (s : State) : Byte × State := (Config.openBus s.draws, { s with draws := s.draws + 1 })

/-- The environment's answer to a port read: the next byte it supplies, a free byte if none is given (R56, R57, U3). -/
def nextPortByte (s : State) : Byte × State :=
  match s.portInputs with
  | v :: rest => (v, { s with portInputs := rest })
  | [] => (Config.portByte s.draws, { s with draws := s.draws + 1 })

/-- A port read: the answer, and the access recorded (R56). -/
def readPort (access : Byte → Output) (s : State) : Byte × State :=
  let r := nextPortByte s
  (r.1, r.2.deliver (access r.1))

/-- `MemRead(addr, 1)` (R53): the byte, and the state after the read's side effect (R67). -/
def busRead (addr : Word) (s : State) : Byte × State :=
  match region addr with
  | .ram => (s.ram.read (ramOffset addr), s)
  | .graphics => readPort (.ppuRead (graphicsReg addr)) s
  | .audioStatus => (s.apu.statusByte, { s with apu := s.apu.afterStatusRead })
  | .controller => readPort (.controllerRead false) s
  | .frame => readPort (.controllerRead true) s
  | .audio => readOpenBus s
  | .spriteDma => readOpenBus s
  | .unmapped => readOpenBus s
  | .cartridge =>
    match s.cart.cpuRead addr with
    | some v => (v, s)
    | none => readOpenBus s

/-- The DMA's reads from offset `i` of a page on, `n` of them in ascending order (R58). -/
def dmaReads (page : Byte) (i n : Nat) (s : State) : List Byte × State :=
  match n with
  | 0 => ([], s)
  | n + 1 =>
    let r := busRead (word page (BitVec.ofNat 8 i)) s
    let t := dmaReads page (i + 1) n r.2
    (r.1 :: t.1, t.2)

/-- The cycles of one sprite DMA, by the parity of the cycle total before the step (R58). -/
def dmaCycles (cycles : Nat) : Nat := 513 + cycles % 2

/-- The sprite DMA of a page (R58). -/
def spriteDma (page : Byte) (s : State) : State :=
  let r := dmaReads page 0 256 s
  { r.2 with outputs := .spriteDma r.1 :: r.2.outputs, extraCycles := r.2.extraCycles + dmaCycles s.cycles }

/-- An audio register write at a bus address from 0x4000 to 0x4017, the register being its low five bits (R54). -/
def writeAudio (addr : Word) (v : Byte) (s : State) : State :=
  { s with apu := s.apu.regWrite (addr.toNat % 0x20) v }

/-- `MemWrite(addr, 1, v)` (R54). -/
def busWrite (addr : Word) (v : Byte) (s : State) : State :=
  match region addr with
  | .ram => { s with ram := s.ram.write (ramOffset addr) v }
  | .graphics => s.deliver (.ppuWrite (graphicsReg addr) v)
  | .audio => writeAudio addr v s
  | .audioStatus => writeAudio addr v s
  | .frame => writeAudio addr v s
  | .spriteDma => spriteDma v s
  | .controller => s.deliver (.controllerStrobe v)
  | .unmapped => s
  | .cartridge => { s with cart := s.cart.cpuWrite addr v }

/-- `Read16(addr)`, the low byte read first (R65). -/
def read16 (addr : Word) (s : State) : Word × State :=
  let l := busRead addr s
  let h := busRead (addr + 1) l.2
  (word h.1 l.1, h.2)

/-- `Read16Bug(addr)`: the high byte from the same page (R66). -/
def read16Bug (addr : Word) (s : State) : Word × State :=
  let l := busRead addr s
  let h := busRead (word (hi addr) (lo addr + 1)) l.2
  (word h.1 l.1, h.2)

/-- The byte a bus address holds, without a read's side effect; none where no storage answers. What statements read memory
through. -/
def State.peek (s : State) (addr : Word) : Option Byte :=
  match region addr with
  | .ram => some (s.ram.read (ramOffset addr))
  | .cartridge => s.cart.cpuRead addr
  | _ => none

end Sys2Proof.Machine
end

