-- ==== Sys2Proof/Machine/ApuStep.lean ====
section
/-! DEFINITION. One step of the audio unit, a CPU cycle (60_exceptions.md R352): the channel timers with the delta-modulation
reader (R349, R353), the frame checkpoint and the sample checkpoint; and the steps a CPU step owes (70_reset_and_hazards.md
R386). -/

namespace Sys2Proof.Machine

/-- The address after `cur_addr` (R349). -/
def nextSampleAddr (a : Word) : Word := if a = 0xFFFF then 0x8000 else a + 1

/-- The channel after its reader fetched the byte `v` (R349). -/
def Dmc.fetched (d : Dmc) (v : Byte) : Dmc :=
  let t := { d with shift := v, bitsLeft := 8, curAddr := nextSampleAddr d.curAddr, bytesLeft := d.bytesLeft - 1 }
  if t.bytesLeft = 0 ∧ d.loop = true then t.restart else t

/-- The fetch takes the sample's last byte and asks for the interrupt (R349). -/
def Dmc.endsSample (d : Dmc) : Bool := d.bytesLeft - 1 == 0 && !d.loop && d.irqEnable

/-- `dmc_reader` (R349). -/
def dmcReader (s : State) : State :=
  if s.apu.dmc.bytesLeft ≠ 0 ∧ s.apu.dmc.bitsLeft = 0 then
    let r := busRead s.apu.dmc.curAddr s
    { r.2 with
      stall := r.2.stall + 4
      apu :=
        { r.2.apu with
          dmc := s.apu.dmc.fetched r.1
          dmcIrq := r.2.apu.dmcIrq || s.apu.dmc.endsSample } }
  else s

/-- The timers clocked every other cycle: the pulses, noise and delta-modulation (R352). -/
def clockSlowTimers (s : State) : State :=
  let t := dmcReader
    { s with
      apu :=
        { s.apu with
          pulse1 := s.apu.pulse1.clockTimer, pulse2 := s.apu.pulse2.clockTimer, noise := s.apu.noise.clockTimer } }
  { t with apu := { t.apu with dmc := t.apu.dmc.clockTimer } }

/-- A checkpoint of a rate falls on the step that takes the cycle count from `c` to `c + 1` (R352). -/
def checkpoint (rate c : Nat) : Bool := c * rate / cpuFreq != (c + 1) * rate / cpuFreq

/-- The frame checkpoint (R352, R355). -/
def frameCheckpoint (c : Nat) (s : State) : State :=
  if checkpoint frameRate c then { s with apu := s.apu.frameClock } else s

/-- `emit_sample` at the sample checkpoint (R352, R358). -/
def sampleCheckpoint (c : Nat) (s : State) : State :=
  if checkpoint sampleRate c then
    { s with apu := s.apu.afterSample, outputs := .audioSample s.apu.sample :: s.outputs }
  else s

/-- One APU step, which pays one of the steps owed (R352, R386). -/
def apuStep (s : State) : State :=
  let c := s.apu.apuCycle
  let s1 := { s with apuOwed := s.apuOwed - 1, apu := { s.apu with apuCycle := c + 1 } }
  let s2 := if (c + 1) % 2 = 0 then clockSlowTimers s1 else s1
  let s3 := { s2 with apu := { s2.apu with tri := s2.apu.tri.clockTimer } }
  sampleCheckpoint c (frameCheckpoint c s3)

/-- `n` APU steps (R386). -/
def apuSteps (n : Nat) (s : State) : State :=
  match n with
  | 0 => s
  | n + 1 => apuSteps n (apuStep s)

/-- The APU steps owed (R386). -/
def drainApu (s : State) : State := apuSteps s.apuOwed s

end Sys2Proof.Machine
end

