-- ==== Sys2Proof/Machine/Flags.lean ====
section
/-! DEFINITION. The status byte and every flag computation: packing (10_state.md R24, R25), `setZN` (00_scope.md R8), addition and
subtraction (42_arithmetic.md R181, R182), comparison (R183), bit test (43_logic_shift.md R203), shifts and rotates (R204 to R207). -/

namespace Sys2Proof.Machine

/-- `pack(b4)`: N V 1 b4 D I Z C from bit 7 to bit 0 (R24). -/
def pack (b4 : Bool) (f : Flags) : Byte :=
  BitVec.ofBool f.n ++ BitVec.ofBool f.v ++ 1#1 ++ BitVec.ofBool b4 ++
    BitVec.ofBool f.d ++ BitVec.ofBool f.i ++ BitVec.ofBool f.z ++ BitVec.ofBool f.c

/-- `unpack(v)`: each flag from its own bit, bit 5 ignored (R25). -/
def unpack (v : Byte) : Flags :=
  { c := v.getLsbD 0, z := v.getLsbD 1, i := v.getLsbD 2, d := v.getLsbD 3, b := v.getLsbD 4, v := v.getLsbD 6
    n := v.getLsbD 7 }

/-- `setZN(v)`: Z if `v` is 0, N from bit 7, nothing else (R8). -/
def setZN (v : Byte) (f : Flags) : Flags := { f with z := v == 0, n := v.getLsbD 7 }

/-- The result of `a + m + c`: the 9-bit sum's low byte (R181). -/
def addResult (a m : Byte) (c : Bool) : Byte := BitVec.ofNat 8 (a.toNat + m.toNat + c.toNat)

/-- Bit 8 of the 9-bit sum (R181). -/
def addCarry (a m : Byte) (c : Bool) : Bool := decide (256 ≤ a.toNat + m.toNat + c.toNat)

/-- Signed overflow: both operands share a sign and the result's differs (R181). -/
def addOverflow (a m r : Byte) : Bool := a.getLsbD 7 == m.getLsbD 7 && r.getLsbD 7 != a.getLsbD 7

/-- The flags of an addition with operands `a`, `m` and the carry flag: C, V, Z, N (R181). -/
def addFlags (a m : Byte) (f : Flags) : Flags :=
  let r := addResult a m f.c
  setZN r { f with c := addCarry a m f.c, v := addOverflow a m r }

/-- The one's complement, which SBC adds (R182). -/
def complement (m : Byte) : Byte := m ^^^ 0xFF

/-- The flags of a comparison of register value `r` with `m`: C, Z, N; V untouched (R183). -/
def compareFlags (r m : Byte) (f : Flags) : Flags :=
  { f with c := decide (m.toNat ≤ r.toNat), z := r == m, n := (r - m).getLsbD 7 }

/-- The flags of BIT: Z from `a & m`, V and N from bits 6 and 7 of `m` (R203). -/
def bitFlags (a m : Byte) (f : Flags) : Flags :=
  { f with z := (a &&& m) == 0, v := m.getLsbD 6, n := m.getLsbD 7 }

/-- Shift left, a zero entering bit 0 (R204). -/
def shiftLeft (v : Byte) : Byte := v <<< 1

/-- Shift right, a zero entering bit 7 (R205). -/
def shiftRight (v : Byte) : Byte := v >>> 1

/-- Rotate left, the carry entering bit 0 (R206). -/
def rotateLeft (c : Bool) (v : Byte) : Byte := (v <<< 1) ||| (BitVec.ofBool c).setWidth 8

/-- Rotate right, the carry entering bit 7 (R207). -/
def rotateRight (c : Bool) (v : Byte) : Byte := (v >>> 1) ||| ((BitVec.ofBool c).setWidth 8 <<< 7)

/-- The flags of a shift or rotate: C is the bit shifted out, Z and N describe the result (R204 to R207). -/
def shiftFlags (out : Bool) (r : Byte) (f : Flags) : Flags := setZN r { f with c := out }

end Sys2Proof.Machine
end

