-- ==== Sys2Proof/Machine/Ops.lean ====
section
/-! DEFINITION. The named operations every meaning is made of: register writes, moving past an instruction, the stack
(20_memory.md R61 to R64), fatal errors (60_exceptions.md R300 to R305), interrupt entry and return (R309, R254), the end of a
CPU step with its cycle count (70_reset_and_hazards.md R394), and the reset procedure (R380). -/

namespace Sys2Proof.Machine

/-- A write of `A` (R20). -/
def State.setA (s : State) (v : Byte) : State := { s with a := v }

/-- A write of `X` (R20). -/
def State.setX (s : State) (v : Byte) : State := { s with x := v }

/-- A write of `Y` (R20). -/
def State.setY (s : State) (v : Byte) : State := { s with y := v }

/-- A write of `SP` (R22). -/
def State.setSp (s : State) (v : Byte) : State := { s with sp := v }

/-- A write of `PC` (R21). -/
def State.setPc (s : State) (w : Word) : State := { s with pc := w }

/-- A write of the flags (R23). -/
def State.setFlags (s : State) (f : Flags) : State := { s with flags := f }

/-- Moves `PC` past an instruction of `n` bytes (R21, R112 step 4). -/
def State.advance (s : State) (n : Nat) : State := s.setPc (s.pc + BitVec.ofNat 16 n)

/-- The register view `P` of the flags (R24). -/
def State.p (s : State) : Byte := pack s.flags.b s.flags

/-- The cycles of a CPU step that adds `base` and penalties to what the step owes already (R394). -/
def State.stepCycles (s : State) (base : Nat) : Nat := base + s.extraCycles + s.stall

/-- Ends a CPU step: its cycles counted and owed to the APU, the stall paid (R384, R386, R394). -/
def finish (base : Nat) (s : State) : State :=
  { s with cycles := s.cycles + s.stepCycles base, apuOwed := s.stepCycles base, stall := 0, extraCycles := 0 }

/-- `raise Fatal.<Name>`: the machine halts with the reason and the registers at the raise; nothing else happens (R300). -/
def raiseFatal (e : FatalError) (s : State) : State :=
  { s with halted := some { error := e, pc := s.pc, a := s.a, x := s.x, y := s.y, sp := s.sp, p := s.p } }

/-- The stack address of a stack pointer, in page 1 (R22). -/
def stackAddr (sp : Byte) : Word := word stackPage sp

/-- The write and decrement of a push (R62). -/
def push (v : Byte) (s : State) : State :=
  let t := busWrite (stackAddr s.sp) v s
  t.setSp (s.sp - 1)

/-- The increment and read of a pop (R63). -/
def pop (s : State) : Byte × State := busRead (stackAddr (s.sp + 1)) (s.setSp (s.sp + 1))

/-- A push that `STACK_POLICY = fatal` stops (R64). -/
def pushFails (s : State) : Bool := s.params.stackPolicy == .fatal && s.sp == 0x00

/-- A pop that `STACK_POLICY = fatal` stops (R64). -/
def popFails (s : State) : Bool := s.params.stackPolicy == .fatal && s.sp == 0xFF

/-- `push(v)` and then `k`, or `Fatal.StackExhaustion` and nothing more (R62, R64, R305). -/
def pushThen (v : Byte) (k : State → State) (s : State) : State :=
  if pushFails s then raiseFatal .stackExhaustion s else k (push v s)

/-- `v <- pop()` and then `k v`, or `Fatal.StackExhaustion` and nothing more (R63, R64, R305). -/
def popThen (k : Byte → State → State) (s : State) : State :=
  if popFails s then raiseFatal .stackExhaustion s
  else
    let r := pop s
    k r.1 r.2

/-- `push16(w)`, high byte first, and then `k` (R61). -/
def push16Then (w : Word) (k : State → State) (s : State) : State :=
  pushThen (hi w) (fun t => pushThen (lo w) k t) s

/-- `pop16()`, low byte first, and then `k` with the word (R61). -/
def pop16Then (k : Word → State → State) (s : State) : State :=
  popThen (fun l t => popThen (fun h u => k (word h l) u) t) s

/-- Taking an interrupt or executing BRK: `ret` and the status byte with bit 4 = `b4` are pushed, `I` is set, `PC` is loaded
from the vector, 7 cycles (R309). NMI and IRQ push `PC`; BRK pushes one more than the post-fetch `PC` (R312). -/
def enterInterrupt (ret : Word) (b4 : Bool) (vector : Word) (s : State) : State :=
  push16Then ret
    (fun t =>
      pushThen (pack b4 t.flags)
        (fun u =>
          let r := read16 vector (u.setFlags { u.flags with i := true })
          finish 7 (r.2.setPc r.1))
        t)
    s

/-- Return from interrupt: the status byte, then `PC`, 6 cycles (R254, R313). -/
def returnFromInterrupt (s : State) : State :=
  popThen (fun v t => pop16Then (fun w u => finish 6 (u.setPc w)) (t.setFlags (unpack v))) s

/-- NMI entry (R310). -/
def nmiEntry (s : State) : State := enterInterrupt s.pc false nmiVector { s with nmiPending := false }

/-- IRQ entry (R311). -/
def irqEntry (s : State) : State := enterInterrupt s.pc false irqVector s

/-- `irq_line`: the level of the IRQ request (R308). -/
def State.irqLine (s : State) : Bool := s.apu.frameIrq || s.apu.dmcIrq || s.extIrq

/-- `Reset()` (R380). -/
def resetProcedure (s : State) : State :=
  let r := read16 resetVector { s with flags := unpack resetP, sp := resetSp }
  { r.2 with pc := r.1, nmiPending := false, halted := none, stall := 0, cycles := 0 }

/-- The machine at power-on, before the reset: the loader's deposit and the unspecified contents are launch inputs, the mapper and
the audio unit take their power-on values (R36, R336, R381, U1); `PC`, `SP` and the flags are not yet meaningful (R34). -/
def powerOn (d : Loaded) (params : Params) (a x y : Byte) (ram : Memory) : State :=
  { State.reset with a := a, x := x, y := y, ram := ram, cart := Cart.load d, params := params }

/-- The machine after power-on and the first reset (R36, R381). -/
def launch (d : Loaded) (params : Params) (a x y : Byte) (ram : Memory) : State :=
  resetProcedure (powerOn d params a x y ram)

end Sys2Proof.Machine
end

