-- ==== Sys2Proof/Machine/Operands.lean ====
section
/-! DEFINITION. The addressing-mode resolver, one function per mode (30_encoding.md R113 to R125), and the shapes of an
instruction: what is read, what is written and what the step costs (R112, 70_reset_and_hazards.md R394). Every resolver takes
the state after `PC` has moved past the instruction (R112 step 4). -/

namespace Sys2Proof.Machine

/-- What the resolver returns: the effective address, the extra-cycle flag, and the state after the bus reads it made
(R112 step 5). -/
structure Resolved where
  ea : Word
  crossed : Bool
  state : State

/-- ZeroPage (R116). -/
def zeroPage (zp : Byte) (s : State) : Resolved := { ea := zext16 zp, crossed := false, state := s }

/-- ZeroPageX: wraps within page 0 (R117). -/
def zeroPageX (zp : Byte) (s : State) : Resolved := { ea := zext16 (zp + s.x), crossed := false, state := s }

/-- ZeroPageY: wraps within page 0 (R118). -/
def zeroPageY (zp : Byte) (s : State) : Resolved := { ea := zext16 (zp + s.y), crossed := false, state := s }

/-- Absolute (R119). -/
def absolute (w : Word) (s : State) : Resolved := { ea := w, crossed := false, state := s }

/-- A base address offset by an index register with 16-bit wraparound (R120, R121, R124). -/
def indexed (base : Word) (index : Byte) (s : State) : Resolved :=
  { ea := base + zext16 index, crossed := pageCross base (base + zext16 index), state := s }

/-- AbsoluteX (R120). -/
def absoluteX (w : Word) (s : State) : Resolved := indexed w s.x s

/-- AbsoluteY (R121). -/
def absoluteY (w : Word) (s : State) : Resolved := indexed w s.y s

/-- Indirect, with the page-wrap bug (R122). -/
def indirect (ptr : Word) (s : State) : Resolved :=
  let r := read16Bug ptr s
  { ea := r.1, crossed := false, state := r.2 }

/-- IndexedIndirect, `(zp,X)` (R123). -/
def indexedIndirect (zp : Byte) (s : State) : Resolved :=
  let r := read16Bug (zext16 (zp + s.x)) s
  { ea := r.1, crossed := false, state := r.2 }

/-- IndirectIndexed, `(zp),Y` (R124). -/
def indirectIndexed (zp : Byte) (s : State) : Resolved :=
  let r := read16Bug (zext16 zp) s
  indexed r.1 s.y r.2

/-- Relative: the branch target from the post-fetch `PC` (R125). -/
def relative (off : Byte) (s : State) : Resolved :=
  { ea := s.pc + sext16 off, crossed := pageCross s.pc (s.pc + sext16 off), state := s }

/-- The page-cross penalty of an opcode: one cycle where it is marked `+p` and the address crossed (R394). -/
def pagePenalty (marked crossed : Bool) : Nat := if marked && crossed then 1 else 0

/-- An implied or accumulator instruction: `f`, and `base` cycles (R113, R114). -/
def impliedStep (base : Nat) (f : State → State) (s : State) : State := finish base (f (s.advance 1))

/-- An instruction with an immediate operand, which the fetch read at its own position (R115; log entry 15). -/
def immediateStep (base : Nat) (f : Byte → State → State) (m : Byte) (s : State) : State :=
  finish base (f m (s.advance 2))

/-- An instruction of `len` bytes that reads its operand at the effective address: one read (R112 step 6). -/
def readStep (len base : Nat) (marked : Bool) (mode : State → Resolved) (f : Byte → State → State) (s : State) : State :=
  let r := mode (s.advance len)
  let m := busRead r.ea r.state
  finish (base + pagePenalty marked r.crossed) (f m.1 m.2)

/-- An instruction that stores: one write, no read of the effective address (R153). -/
def storeStep (len base : Nat) (mode : State → Resolved) (v : State → Byte) (s : State) : State :=
  let r := mode (s.advance len)
  finish base (busWrite r.ea (v r.state) r.state)

/-- A read-modify-write instruction: one read, one write of the result `g c m` (`c` the carry, `m` the byte read), then the
register and flag update `f m result` (R186, R208, R265). -/
def modifyStep (len base : Nat) (mode : State → Resolved) (g : Bool → Byte → Byte) (f : Byte → Byte → State → State)
    (s : State) : State :=
  let r := mode (s.advance len)
  let m := busRead r.ea r.state
  let v := g m.2.flags.c m.1
  finish base (f m.1 v (busWrite r.ea v m.2))

/-- A conditional branch: 2 cycles not taken, 3 taken, 4 taken across a page (R220). -/
def branchStep (taken : Bool) (off : Byte) (s : State) : State :=
  let r := relative off (s.advance 2)
  if taken then finish (3 + pagePenalty true r.crossed) (r.state.setPc r.ea) else finish 2 r.state

/-- An undocumented instruction: with `UNDOC_SET` empty its opcode is unsupported (R265, R301), raised before anything else
changes. -/
def undocumented (op : Byte) (f : State → State) (s : State) : State :=
  if s.params.undocSet then f s else raiseFatal (.unsupportedOpcode op) s

end Sys2Proof.Machine
end

