-- ==== Sys2Proof/Machine/Control.lean ====
section
/-! DEFINITION. Control transfer: branches, JMP, JSR, RTS (44_control.md R220 to R231). -/

namespace Sys2Proof.Machine

/-- BCC label, 0x90 (R221, R220). -/
def execBcc (off : Byte) (s : State) : Host.Outcome State Fault Refusal :=
  .next (branchStep (!s.flags.c) off s)

/-- BCS label, 0xB0 (R222, R220). -/
def execBcs (off : Byte) (s : State) : Host.Outcome State Fault Refusal :=
  .next (branchStep (s.flags.c) off s)

/-- BEQ label, 0xF0 (R223, R220). -/
def execBeq (off : Byte) (s : State) : Host.Outcome State Fault Refusal :=
  .next (branchStep (s.flags.z) off s)

/-- BNE label, 0xD0 (R224, R220). -/
def execBne (off : Byte) (s : State) : Host.Outcome State Fault Refusal :=
  .next (branchStep (!s.flags.z) off s)

/-- BMI label, 0x30 (R225, R220). -/
def execBmi (off : Byte) (s : State) : Host.Outcome State Fault Refusal :=
  .next (branchStep (s.flags.n) off s)

/-- BPL label, 0x10 (R226, R220). -/
def execBpl (off : Byte) (s : State) : Host.Outcome State Fault Refusal :=
  .next (branchStep (!s.flags.n) off s)

/-- BVC label, 0x50 (R227, R220). -/
def execBvc (off : Byte) (s : State) : Host.Outcome State Fault Refusal :=
  .next (branchStep (!s.flags.v) off s)

/-- BVS label, 0x70 (R228, R220). -/
def execBvs (off : Byte) (s : State) : Host.Outcome State Fault Refusal :=
  .next (branchStep (s.flags.v) off s)

/-- JMP $hhll, 0x4C (R229), 3 cycles. -/
def execJmpAbsolute (w : Word) (s : State) : Host.Outcome State Fault Refusal :=
  .next (finish 3 ((s.advance 3).setPc w))

/-- JMP ($hhll), 0x6C (R229), 5 cycles. -/
def execJmpIndirect (ptr : Word) (s : State) : Host.Outcome State Fault Refusal :=
  let r := indirect ptr (s.advance 3)
  .next (finish 5 (r.state.setPc r.ea))

/-- JSR $hhll, 0x20 (R230), 6 cycles. -/
def execJsrAbsolute (w : Word) (s : State) : Host.Outcome State Fault Refusal :=
  .next (push16Then (s.pc + 2) (fun t => finish 6 (t.setPc w)) (s.advance 3))

/-- RTS, 0x60 (R231), 6 cycles. -/
def execRts (s : State) : Host.Outcome State Fault Refusal :=
  .next (pop16Then (fun w t => finish 6 (t.setPc (w + 1))) (s.advance 1))

end Sys2Proof.Machine
end

