-- ==== Sys2Proof/Machine/FlagsSystem.lean ====
section
/-! DEFINITION. Flag instructions, NOP, BRK and RTI (45_flags_system.md R245 to R254). -/

namespace Sys2Proof.Machine

/-- CLC, 0x18 (R245), 2 cycles. -/
def execClc (s : State) : Host.Outcome State Fault Refusal :=
  .next (impliedStep 2 (fun t => t.setFlags { t.flags with c := false }) s)

/-- SEC, 0x38 (R246), 2 cycles. -/
def execSec (s : State) : Host.Outcome State Fault Refusal :=
  .next (impliedStep 2 (fun t => t.setFlags { t.flags with c := true }) s)

/-- CLI, 0x58 (R247), 2 cycles. -/
def execCli (s : State) : Host.Outcome State Fault Refusal :=
  .next (impliedStep 2 (fun t => t.setFlags { t.flags with i := false }) s)

/-- SEI, 0x78 (R248), 2 cycles. -/
def execSei (s : State) : Host.Outcome State Fault Refusal :=
  .next (impliedStep 2 (fun t => t.setFlags { t.flags with i := true }) s)

/-- CLD, 0xD8 (R249), 2 cycles. -/
def execCld (s : State) : Host.Outcome State Fault Refusal :=
  .next (impliedStep 2 (fun t => t.setFlags { t.flags with d := false }) s)

/-- SED, 0xF8 (R250), 2 cycles. -/
def execSed (s : State) : Host.Outcome State Fault Refusal :=
  .next (impliedStep 2 (fun t => t.setFlags { t.flags with d := true }) s)

/-- CLV, 0xB8 (R251), 2 cycles. -/
def execClv (s : State) : Host.Outcome State Fault Refusal :=
  .next (impliedStep 2 (fun t => t.setFlags { t.flags with v := false }) s)

/-- NOP, 0xEA (R252), 2 cycles. -/
def execNop (s : State) : Host.Outcome State Fault Refusal :=
  .next (impliedStep 2 (fun t => t) s)

/-- BRK, 0x00 (R253), 7 cycles. -/
def execBrk (s : State) : Host.Outcome State Fault Refusal :=
  .next (enterInterrupt (s.pc + 2) true irqVector (s.advance 1))

/-- RTI, 0x40 (R254), 6 cycles. -/
def execRti (s : State) : Host.Outcome State Fault Refusal :=
  .next (returnFromInterrupt (s.advance 1))

end Sys2Proof.Machine
end

