-- ==== Sys2Proof/Machine/LoadStore.lean ====
section
/-! DEFINITION. Loads and stores (40_load_store.md R150 to R155): the effect of each load, and one meaning per opcode row. -/

namespace Sys2Proof.Machine

/-- `A <- m`, Z and N (R150). -/
def ldaEffect (m : Byte) (s : State) : State := (s.setA m).setFlags (setZN m s.flags)

/-- `X <- m`, Z and N (R151). -/
def ldxEffect (m : Byte) (s : State) : State := (s.setX m).setFlags (setZN m s.flags)

/-- `Y <- m`, Z and N (R152). -/
def ldyEffect (m : Byte) (s : State) : State := (s.setY m).setFlags (setZN m s.flags)

/-- LDA ($nn,X), 0xA1 (R150), 6 cycles. -/
def execLdaIndexedIndirect (zp : Byte) (s : State) : Host.Outcome State Fault Refusal :=
  .next (readStep 2 6 false (indexedIndirect zp) ldaEffect s)

/-- LDA $nn, 0xA5 (R150), 3 cycles. -/
def execLdaZeroPage (zp : Byte) (s : State) : Host.Outcome State Fault Refusal :=
  .next (readStep 2 3 false (zeroPage zp) ldaEffect s)

/-- LDA #$nn, 0xA9 (R150), 2 cycles. -/
def execLdaImmediate (imm : Byte) (s : State) : Host.Outcome State Fault Refusal :=
  .next (immediateStep 2 ldaEffect imm s)

/-- LDA $hhll, 0xAD (R150), 4 cycles. -/
def execLdaAbsolute (w : Word) (s : State) : Host.Outcome State Fault Refusal :=
  .next (readStep 3 4 false (absolute w) ldaEffect s)

/-- LDA ($nn),Y, 0xB1 (R150), 5 cycles, one more if the page is crossed. -/
def execLdaIndirectIndexed (zp : Byte) (s : State) : Host.Outcome State Fault Refusal :=
  .next (readStep 2 5 true (indirectIndexed zp) ldaEffect s)

/-- LDA $nn,X, 0xB5 (R150), 4 cycles. -/
def execLdaZeroPageX (zp : Byte) (s : State) : Host.Outcome State Fault Refusal :=
  .next (readStep 2 4 false (zeroPageX zp) ldaEffect s)

/-- LDA $hhll,Y, 0xB9 (R150), 4 cycles, one more if the page is crossed. -/
def execLdaAbsoluteY (w : Word) (s : State) : Host.Outcome State Fault Refusal :=
  .next (readStep 3 4 true (absoluteY w) ldaEffect s)

/-- LDA $hhll,X, 0xBD (R150), 4 cycles, one more if the page is crossed. -/
def execLdaAbsoluteX (w : Word) (s : State) : Host.Outcome State Fault Refusal :=
  .next (readStep 3 4 true (absoluteX w) ldaEffect s)

/-- LDX #$nn, 0xA2 (R151), 2 cycles. -/
def execLdxImmediate (imm : Byte) (s : State) : Host.Outcome State Fault Refusal :=
  .next (immediateStep 2 ldxEffect imm s)

/-- LDX $nn, 0xA6 (R151), 3 cycles. -/
def execLdxZeroPage (zp : Byte) (s : State) : Host.Outcome State Fault Refusal :=
  .next (readStep 2 3 false (zeroPage zp) ldxEffect s)

/-- LDX $hhll, 0xAE (R151), 4 cycles. -/
def execLdxAbsolute (w : Word) (s : State) : Host.Outcome State Fault Refusal :=
  .next (readStep 3 4 false (absolute w) ldxEffect s)

/-- LDX $nn,Y, 0xB6 (R151), 4 cycles. -/
def execLdxZeroPageY (zp : Byte) (s : State) : Host.Outcome State Fault Refusal :=
  .next (readStep 2 4 false (zeroPageY zp) ldxEffect s)

/-- LDX $hhll,Y, 0xBE (R151), 4 cycles, one more if the page is crossed. -/
def execLdxAbsoluteY (w : Word) (s : State) : Host.Outcome State Fault Refusal :=
  .next (readStep 3 4 true (absoluteY w) ldxEffect s)

/-- LDY #$nn, 0xA0 (R152), 2 cycles. -/
def execLdyImmediate (imm : Byte) (s : State) : Host.Outcome State Fault Refusal :=
  .next (immediateStep 2 ldyEffect imm s)

/-- LDY $nn, 0xA4 (R152), 3 cycles. -/
def execLdyZeroPage (zp : Byte) (s : State) : Host.Outcome State Fault Refusal :=
  .next (readStep 2 3 false (zeroPage zp) ldyEffect s)

/-- LDY $hhll, 0xAC (R152), 4 cycles. -/
def execLdyAbsolute (w : Word) (s : State) : Host.Outcome State Fault Refusal :=
  .next (readStep 3 4 false (absolute w) ldyEffect s)

/-- LDY $nn,X, 0xB4 (R152), 4 cycles. -/
def execLdyZeroPageX (zp : Byte) (s : State) : Host.Outcome State Fault Refusal :=
  .next (readStep 2 4 false (zeroPageX zp) ldyEffect s)

/-- LDY $hhll,X, 0xBC (R152), 4 cycles, one more if the page is crossed. -/
def execLdyAbsoluteX (w : Word) (s : State) : Host.Outcome State Fault Refusal :=
  .next (readStep 3 4 true (absoluteX w) ldyEffect s)

/-- STA ($nn,X), 0x81 (R153), 6 cycles. -/
def execStaIndexedIndirect (zp : Byte) (s : State) : Host.Outcome State Fault Refusal :=
  .next (storeStep 2 6 (indexedIndirect zp) (·.a) s)

/-- STA $nn, 0x85 (R153), 3 cycles. -/
def execStaZeroPage (zp : Byte) (s : State) : Host.Outcome State Fault Refusal :=
  .next (storeStep 2 3 (zeroPage zp) (·.a) s)

/-- STA $hhll, 0x8D (R153), 4 cycles. -/
def execStaAbsolute (w : Word) (s : State) : Host.Outcome State Fault Refusal :=
  .next (storeStep 3 4 (absolute w) (·.a) s)

/-- STA ($nn),Y, 0x91 (R153), 6 cycles. -/
def execStaIndirectIndexed (zp : Byte) (s : State) : Host.Outcome State Fault Refusal :=
  .next (storeStep 2 6 (indirectIndexed zp) (·.a) s)

/-- STA $nn,X, 0x95 (R153), 4 cycles. -/
def execStaZeroPageX (zp : Byte) (s : State) : Host.Outcome State Fault Refusal :=
  .next (storeStep 2 4 (zeroPageX zp) (·.a) s)

/-- STA $hhll,Y, 0x99 (R153), 5 cycles. -/
def execStaAbsoluteY (w : Word) (s : State) : Host.Outcome State Fault Refusal :=
  .next (storeStep 3 5 (absoluteY w) (·.a) s)

/-- STA $hhll,X, 0x9D (R153), 5 cycles. -/
def execStaAbsoluteX (w : Word) (s : State) : Host.Outcome State Fault Refusal :=
  .next (storeStep 3 5 (absoluteX w) (·.a) s)

/-- STX $nn, 0x86 (R154), 3 cycles. -/
def execStxZeroPage (zp : Byte) (s : State) : Host.Outcome State Fault Refusal :=
  .next (storeStep 2 3 (zeroPage zp) (·.x) s)

/-- STX $hhll, 0x8E (R154), 4 cycles. -/
def execStxAbsolute (w : Word) (s : State) : Host.Outcome State Fault Refusal :=
  .next (storeStep 3 4 (absolute w) (·.x) s)

/-- STX $nn,Y, 0x96 (R154), 4 cycles. -/
def execStxZeroPageY (zp : Byte) (s : State) : Host.Outcome State Fault Refusal :=
  .next (storeStep 2 4 (zeroPageY zp) (·.x) s)

/-- STY $nn, 0x84 (R155), 3 cycles. -/
def execStyZeroPage (zp : Byte) (s : State) : Host.Outcome State Fault Refusal :=
  .next (storeStep 2 3 (zeroPage zp) (·.y) s)

/-- STY $hhll, 0x8C (R155), 4 cycles. -/
def execStyAbsolute (w : Word) (s : State) : Host.Outcome State Fault Refusal :=
  .next (storeStep 3 4 (absolute w) (·.y) s)

/-- STY $nn,X, 0x94 (R155), 4 cycles. -/
def execStyZeroPageX (zp : Byte) (s : State) : Host.Outcome State Fault Refusal :=
  .next (storeStep 2 4 (zeroPageX zp) (·.y) s)

end Sys2Proof.Machine
end

