-- ==== Sys2Proof/Machine/TransferStack.lean ====
section
/-! DEFINITION. Register transfers and stack instructions (41_transfer_stack.md R160 to R169). -/

namespace Sys2Proof.Machine

/-- `X <- A`, Z and N (R160). -/
def taxEffect (s : State) : State := (s.setX s.a).setFlags (setZN s.a s.flags)

/-- `Y <- A`, Z and N (R161). -/
def tayEffect (s : State) : State := (s.setY s.a).setFlags (setZN s.a s.flags)

/-- `A <- X`, Z and N (R162). -/
def txaEffect (s : State) : State := (s.setA s.x).setFlags (setZN s.x s.flags)

/-- `A <- Y`, Z and N (R163). -/
def tyaEffect (s : State) : State := (s.setA s.y).setFlags (setZN s.y s.flags)

/-- `X <- SP`, Z and N (R164). -/
def tsxEffect (s : State) : State := (s.setX s.sp).setFlags (setZN s.sp s.flags)

/-- `SP <- X`, no flag (R165). -/
def txsEffect (s : State) : State := s.setSp s.x

/-- `A <- v`, Z and N: what PLA does with the byte popped (R168). -/
def plaEffect (v : Byte) (s : State) : State := (s.setA v).setFlags (setZN v s.flags)

/-- All seven flags from `v`: what PLP does with the byte popped (R169). -/
def plpEffect (v : Byte) (s : State) : State := s.setFlags (unpack v)

/-- TAX, 0xAA (R160), 2 cycles. -/
def execTax (s : State) : Host.Outcome State Fault Refusal :=
  .next (impliedStep 2 taxEffect s)

/-- TAY, 0xA8 (R161), 2 cycles. -/
def execTay (s : State) : Host.Outcome State Fault Refusal :=
  .next (impliedStep 2 tayEffect s)

/-- TXA, 0x8A (R162), 2 cycles. -/
def execTxa (s : State) : Host.Outcome State Fault Refusal :=
  .next (impliedStep 2 txaEffect s)

/-- TYA, 0x98 (R163), 2 cycles. -/
def execTya (s : State) : Host.Outcome State Fault Refusal :=
  .next (impliedStep 2 tyaEffect s)

/-- TSX, 0xBA (R164), 2 cycles. -/
def execTsx (s : State) : Host.Outcome State Fault Refusal :=
  .next (impliedStep 2 tsxEffect s)

/-- TXS, 0x9A (R165), 2 cycles. -/
def execTxs (s : State) : Host.Outcome State Fault Refusal :=
  .next (impliedStep 2 txsEffect s)

/-- PHA, 0x48 (R166), 3 cycles. -/
def execPha (s : State) : Host.Outcome State Fault Refusal :=
  .next (pushThen s.a (finish 3) (s.advance 1))

/-- PHP, 0x08 (R167), 3 cycles. -/
def execPhp (s : State) : Host.Outcome State Fault Refusal :=
  .next (pushThen (pack true s.flags) (finish 3) (s.advance 1))

/-- PLA, 0x68 (R168), 4 cycles. -/
def execPla (s : State) : Host.Outcome State Fault Refusal :=
  .next (popThen (fun v t => finish 4 (plaEffect v t)) (s.advance 1))

/-- PLP, 0x28 (R169), 4 cycles. -/
def execPlp (s : State) : Host.Outcome State Fault Refusal :=
  .next (popThen (fun v t => finish 4 (plpEffect v t)) (s.advance 1))

end Sys2Proof.Machine
end

