-- ==== Sys2Proof/Machine/Arithmetic.lean ====
section
/-! DEFINITION. Arithmetic, compare, increment and decrement instructions (42_arithmetic.md R180 to R191). -/

namespace Sys2Proof.Machine

/-- ADC of operand `m`, binary whatever D is (R181). -/
def adcEffect (m : Byte) (s : State) : State := (s.setA (addResult s.a m s.flags.c)).setFlags (addFlags s.a m s.flags)

/-- SBC of operand `m`: ADC of its one's complement (R182). -/
def sbcEffect (m : Byte) (s : State) : State := adcEffect (complement m) s

/-- CMP: C, Z, N from A and `m` (R183). -/
def cmpEffect (m : Byte) (s : State) : State := s.setFlags (compareFlags s.a m s.flags)

/-- CPX: C, Z, N from X and `m` (R184). -/
def cpxEffect (m : Byte) (s : State) : State := s.setFlags (compareFlags s.x m s.flags)

/-- CPY: C, Z, N from Y and `m` (R185). -/
def cpyEffect (m : Byte) (s : State) : State := s.setFlags (compareFlags s.y m s.flags)

/-- The byte INC writes (R186). -/
def incResult (_c : Bool) (m : Byte) : Byte := m + 1

/-- The byte DEC writes (R187). -/
def decResult (_c : Bool) (m : Byte) : Byte := m - 1

/-- Z and N of the byte written by INC or DEC (R186, R187). -/
def incDecEffect (_m r : Byte) (s : State) : State := s.setFlags (setZN r s.flags)

/-- `X <- X + 1`, Z and N (R188). -/
def inxEffect (s : State) : State := (s.setX (s.x + 1)).setFlags (setZN (s.x + 1) s.flags)

/-- `Y <- Y + 1`, Z and N (R189). -/
def inyEffect (s : State) : State := (s.setY (s.y + 1)).setFlags (setZN (s.y + 1) s.flags)

/-- `X <- X - 1`, Z and N (R190). -/
def dexEffect (s : State) : State := (s.setX (s.x - 1)).setFlags (setZN (s.x - 1) s.flags)

/-- `Y <- Y - 1`, Z and N (R191). -/
def deyEffect (s : State) : State := (s.setY (s.y - 1)).setFlags (setZN (s.y - 1) s.flags)

/-- ADC ($nn,X), 0x61 (R181), 6 cycles. -/
def execAdcIndexedIndirect (zp : Byte) (s : State) : Host.Outcome State Fault Refusal :=
  .next (readStep 2 6 false (indexedIndirect zp) adcEffect s)

/-- ADC $nn, 0x65 (R181), 3 cycles. -/
def execAdcZeroPage (zp : Byte) (s : State) : Host.Outcome State Fault Refusal :=
  .next (readStep 2 3 false (zeroPage zp) adcEffect s)

/-- ADC #$nn, 0x69 (R181), 2 cycles. -/
def execAdcImmediate (imm : Byte) (s : State) : Host.Outcome State Fault Refusal :=
  .next (immediateStep 2 adcEffect imm s)

/-- ADC $hhll, 0x6D (R181), 4 cycles. -/
def execAdcAbsolute (w : Word) (s : State) : Host.Outcome State Fault Refusal :=
  .next (readStep 3 4 false (absolute w) adcEffect s)

/-- ADC ($nn),Y, 0x71 (R181), 5 cycles, one more if the page is crossed. -/
def execAdcIndirectIndexed (zp : Byte) (s : State) : Host.Outcome State Fault Refusal :=
  .next (readStep 2 5 true (indirectIndexed zp) adcEffect s)

/-- ADC $nn,X, 0x75 (R181), 4 cycles. -/
def execAdcZeroPageX (zp : Byte) (s : State) : Host.Outcome State Fault Refusal :=
  .next (readStep 2 4 false (zeroPageX zp) adcEffect s)

/-- ADC $hhll,Y, 0x79 (R181), 4 cycles, one more if the page is crossed. -/
def execAdcAbsoluteY (w : Word) (s : State) : Host.Outcome State Fault Refusal :=
  .next (readStep 3 4 true (absoluteY w) adcEffect s)

/-- ADC $hhll,X, 0x7D (R181), 4 cycles, one more if the page is crossed. -/
def execAdcAbsoluteX (w : Word) (s : State) : Host.Outcome State Fault Refusal :=
  .next (readStep 3 4 true (absoluteX w) adcEffect s)

/-- SBC ($nn,X), 0xE1 (R182), 6 cycles. -/
def execSbcIndexedIndirect (zp : Byte) (s : State) : Host.Outcome State Fault Refusal :=
  .next (readStep 2 6 false (indexedIndirect zp) sbcEffect s)

/-- SBC $nn, 0xE5 (R182), 3 cycles. -/
def execSbcZeroPage (zp : Byte) (s : State) : Host.Outcome State Fault Refusal :=
  .next (readStep 2 3 false (zeroPage zp) sbcEffect s)

/-- SBC #$nn, 0xE9 (R182), 2 cycles. -/
def execSbcImmediate (imm : Byte) (s : State) : Host.Outcome State Fault Refusal :=
  .next (immediateStep 2 sbcEffect imm s)

/-- SBC $hhll, 0xED (R182), 4 cycles. -/
def execSbcAbsolute (w : Word) (s : State) : Host.Outcome State Fault Refusal :=
  .next (readStep 3 4 false (absolute w) sbcEffect s)

/-- SBC ($nn),Y, 0xF1 (R182), 5 cycles, one more if the page is crossed. -/
def execSbcIndirectIndexed (zp : Byte) (s : State) : Host.Outcome State Fault Refusal :=
  .next (readStep 2 5 true (indirectIndexed zp) sbcEffect s)

/-- SBC $nn,X, 0xF5 (R182), 4 cycles. -/
def execSbcZeroPageX (zp : Byte) (s : State) : Host.Outcome State Fault Refusal :=
  .next (readStep 2 4 false (zeroPageX zp) sbcEffect s)

/-- SBC $hhll,Y, 0xF9 (R182), 4 cycles, one more if the page is crossed. -/
def execSbcAbsoluteY (w : Word) (s : State) : Host.Outcome State Fault Refusal :=
  .next (readStep 3 4 true (absoluteY w) sbcEffect s)

/-- SBC $hhll,X, 0xFD (R182), 4 cycles, one more if the page is crossed. -/
def execSbcAbsoluteX (w : Word) (s : State) : Host.Outcome State Fault Refusal :=
  .next (readStep 3 4 true (absoluteX w) sbcEffect s)

/-- CMP ($nn,X), 0xC1 (R183), 6 cycles. -/
def execCmpIndexedIndirect (zp : Byte) (s : State) : Host.Outcome State Fault Refusal :=
  .next (readStep 2 6 false (indexedIndirect zp) cmpEffect s)

/-- CMP $nn, 0xC5 (R183), 3 cycles. -/
def execCmpZeroPage (zp : Byte) (s : State) : Host.Outcome State Fault Refusal :=
  .next (readStep 2 3 false (zeroPage zp) cmpEffect s)

/-- CMP #$nn, 0xC9 (R183), 2 cycles. -/
def execCmpImmediate (imm : Byte) (s : State) : Host.Outcome State Fault Refusal :=
  .next (immediateStep 2 cmpEffect imm s)

/-- CMP $hhll, 0xCD (R183), 4 cycles. -/
def execCmpAbsolute (w : Word) (s : State) : Host.Outcome State Fault Refusal :=
  .next (readStep 3 4 false (absolute w) cmpEffect s)

/-- CMP ($nn),Y, 0xD1 (R183), 5 cycles, one more if the page is crossed. -/
def execCmpIndirectIndexed (zp : Byte) (s : State) : Host.Outcome State Fault Refusal :=
  .next (readStep 2 5 true (indirectIndexed zp) cmpEffect s)

/-- CMP $nn,X, 0xD5 (R183), 4 cycles. -/
def execCmpZeroPageX (zp : Byte) (s : State) : Host.Outcome State Fault Refusal :=
  .next (readStep 2 4 false (zeroPageX zp) cmpEffect s)

/-- CMP $hhll,Y, 0xD9 (R183), 4 cycles, one more if the page is crossed. -/
def execCmpAbsoluteY (w : Word) (s : State) : Host.Outcome State Fault Refusal :=
  .next (readStep 3 4 true (absoluteY w) cmpEffect s)

/-- CMP $hhll,X, 0xDD (R183), 4 cycles, one more if the page is crossed. -/
def execCmpAbsoluteX (w : Word) (s : State) : Host.Outcome State Fault Refusal :=
  .next (readStep 3 4 true (absoluteX w) cmpEffect s)

/-- CPX #$nn, 0xE0 (R184), 2 cycles. -/
def execCpxImmediate (imm : Byte) (s : State) : Host.Outcome State Fault Refusal :=
  .next (immediateStep 2 cpxEffect imm s)

/-- CPX $nn, 0xE4 (R184), 3 cycles. -/
def execCpxZeroPage (zp : Byte) (s : State) : Host.Outcome State Fault Refusal :=
  .next (readStep 2 3 false (zeroPage zp) cpxEffect s)

/-- CPX $hhll, 0xEC (R184), 4 cycles. -/
def execCpxAbsolute (w : Word) (s : State) : Host.Outcome State Fault Refusal :=
  .next (readStep 3 4 false (absolute w) cpxEffect s)

/-- CPY #$nn, 0xC0 (R185), 2 cycles. -/
def execCpyImmediate (imm : Byte) (s : State) : Host.Outcome State Fault Refusal :=
  .next (immediateStep 2 cpyEffect imm s)

/-- CPY $nn, 0xC4 (R185), 3 cycles. -/
def execCpyZeroPage (zp : Byte) (s : State) : Host.Outcome State Fault Refusal :=
  .next (readStep 2 3 false (zeroPage zp) cpyEffect s)

/-- CPY $hhll, 0xCC (R185), 4 cycles. -/
def execCpyAbsolute (w : Word) (s : State) : Host.Outcome State Fault Refusal :=
  .next (readStep 3 4 false (absolute w) cpyEffect s)

/-- INC $nn, 0xE6 (R186), 5 cycles. -/
def execIncZeroPage (zp : Byte) (s : State) : Host.Outcome State Fault Refusal :=
  .next (modifyStep 2 5 (zeroPage zp) incResult incDecEffect s)

/-- INC $hhll, 0xEE (R186), 6 cycles. -/
def execIncAbsolute (w : Word) (s : State) : Host.Outcome State Fault Refusal :=
  .next (modifyStep 3 6 (absolute w) incResult incDecEffect s)

/-- INC $nn,X, 0xF6 (R186), 6 cycles. -/
def execIncZeroPageX (zp : Byte) (s : State) : Host.Outcome State Fault Refusal :=
  .next (modifyStep 2 6 (zeroPageX zp) incResult incDecEffect s)

/-- INC $hhll,X, 0xFE (R186), 7 cycles. -/
def execIncAbsoluteX (w : Word) (s : State) : Host.Outcome State Fault Refusal :=
  .next (modifyStep 3 7 (absoluteX w) incResult incDecEffect s)

/-- DEC $nn, 0xC6 (R187), 5 cycles. -/
def execDecZeroPage (zp : Byte) (s : State) : Host.Outcome State Fault Refusal :=
  .next (modifyStep 2 5 (zeroPage zp) decResult incDecEffect s)

/-- DEC $hhll, 0xCE (R187), 6 cycles. -/
def execDecAbsolute (w : Word) (s : State) : Host.Outcome State Fault Refusal :=
  .next (modifyStep 3 6 (absolute w) decResult incDecEffect s)

/-- DEC $nn,X, 0xD6 (R187), 6 cycles. -/
def execDecZeroPageX (zp : Byte) (s : State) : Host.Outcome State Fault Refusal :=
  .next (modifyStep 2 6 (zeroPageX zp) decResult incDecEffect s)

/-- DEC $hhll,X, 0xDE (R187), 7 cycles. -/
def execDecAbsoluteX (w : Word) (s : State) : Host.Outcome State Fault Refusal :=
  .next (modifyStep 3 7 (absoluteX w) decResult incDecEffect s)

/-- INX, 0xE8 (R188), 2 cycles. -/
def execInx (s : State) : Host.Outcome State Fault Refusal :=
  .next (impliedStep 2 inxEffect s)

/-- INY, 0xC8 (R189), 2 cycles. -/
def execIny (s : State) : Host.Outcome State Fault Refusal :=
  .next (impliedStep 2 inyEffect s)

/-- DEX, 0xCA (R190), 2 cycles. -/
def execDex (s : State) : Host.Outcome State Fault Refusal :=
  .next (impliedStep 2 dexEffect s)

/-- DEY, 0x88 (R191), 2 cycles. -/
def execDey (s : State) : Host.Outcome State Fault Refusal :=
  .next (impliedStep 2 deyEffect s)

end Sys2Proof.Machine
end

