-- ==== Sys2Proof/Machine/LogicShift.lean ====
section
/-! DEFINITION. Logic, bit test, shifts and rotates (43_logic_shift.md R200 to R208). -/

namespace Sys2Proof.Machine

/-- `A <- v`, Z and N. -/
def logicEffect (v : Byte) (s : State) : State := (s.setA v).setFlags (setZN v s.flags)

/-- AND (R200). -/
def andEffect (m : Byte) (s : State) : State := logicEffect (s.a &&& m) s

/-- ORA (R201). -/
def oraEffect (m : Byte) (s : State) : State := logicEffect (s.a ||| m) s

/-- EOR (R202). -/
def eorEffect (m : Byte) (s : State) : State := logicEffect (s.a ^^^ m) s

/-- BIT (R203). -/
def bitEffect (m : Byte) (s : State) : State := s.setFlags (bitFlags s.a m s.flags)

/-- The byte ASL writes (R204). -/
def aslResult (_c : Bool) (v : Byte) : Byte := shiftLeft v

/-- The byte LSR writes (R205). -/
def lsrResult (_c : Bool) (v : Byte) : Byte := shiftRight v

/-- The byte ROL writes (R206). -/
def rolResult (c : Bool) (v : Byte) : Byte := rotateLeft c v

/-- The byte ROR writes (R207). -/
def rorResult (c : Bool) (v : Byte) : Byte := rotateRight c v

/-- The flags of a left shift or rotate of `v` to `r`: C is bit 7 of `v` (R204, R206). -/
def leftEffect (v r : Byte) (s : State) : State := s.setFlags (shiftFlags (v.getLsbD 7) r s.flags)

/-- The flags of a right shift or rotate of `v` to `r`: C is bit 0 of `v` (R205, R207). -/
def rightEffect (v r : Byte) (s : State) : State := s.setFlags (shiftFlags (v.getLsbD 0) r s.flags)

/-- A shift or rotate in Accumulator mode: the result goes back to A (R114, R208). -/
def accumulatorStep (base : Nat) (g : Bool → Byte → Byte) (f : Byte → Byte → State → State) (s : State) : State :=
  impliedStep base (fun t => f t.a (g t.flags.c t.a) (t.setA (g t.flags.c t.a))) s

/-- AND ($nn,X), 0x21 (R200), 6 cycles. -/
def execAndIndexedIndirect (zp : Byte) (s : State) : Host.Outcome State Fault Refusal :=
  .next (readStep 2 6 false (indexedIndirect zp) andEffect s)

/-- AND $nn, 0x25 (R200), 3 cycles. -/
def execAndZeroPage (zp : Byte) (s : State) : Host.Outcome State Fault Refusal :=
  .next (readStep 2 3 false (zeroPage zp) andEffect s)

/-- AND #$nn, 0x29 (R200), 2 cycles. -/
def execAndImmediate (imm : Byte) (s : State) : Host.Outcome State Fault Refusal :=
  .next (immediateStep 2 andEffect imm s)

/-- AND $hhll, 0x2D (R200), 4 cycles. -/
def execAndAbsolute (w : Word) (s : State) : Host.Outcome State Fault Refusal :=
  .next (readStep 3 4 false (absolute w) andEffect s)

/-- AND ($nn),Y, 0x31 (R200), 5 cycles, one more if the page is crossed. -/
def execAndIndirectIndexed (zp : Byte) (s : State) : Host.Outcome State Fault Refusal :=
  .next (readStep 2 5 true (indirectIndexed zp) andEffect s)

/-- AND $nn,X, 0x35 (R200), 4 cycles. -/
def execAndZeroPageX (zp : Byte) (s : State) : Host.Outcome State Fault Refusal :=
  .next (readStep 2 4 false (zeroPageX zp) andEffect s)

/-- AND $hhll,Y, 0x39 (R200), 4 cycles, one more if the page is crossed. -/
def execAndAbsoluteY (w : Word) (s : State) : Host.Outcome State Fault Refusal :=
  .next (readStep 3 4 true (absoluteY w) andEffect s)

/-- AND $hhll,X, 0x3D (R200), 4 cycles, one more if the page is crossed. -/
def execAndAbsoluteX (w : Word) (s : State) : Host.Outcome State Fault Refusal :=
  .next (readStep 3 4 true (absoluteX w) andEffect s)

/-- ORA ($nn,X), 0x01 (R201), 6 cycles. -/
def execOraIndexedIndirect (zp : Byte) (s : State) : Host.Outcome State Fault Refusal :=
  .next (readStep 2 6 false (indexedIndirect zp) oraEffect s)

/-- ORA $nn, 0x05 (R201), 3 cycles. -/
def execOraZeroPage (zp : Byte) (s : State) : Host.Outcome State Fault Refusal :=
  .next (readStep 2 3 false (zeroPage zp) oraEffect s)

/-- ORA #$nn, 0x09 (R201), 2 cycles. -/
def execOraImmediate (imm : Byte) (s : State) : Host.Outcome State Fault Refusal :=
  .next (immediateStep 2 oraEffect imm s)

/-- ORA $hhll, 0x0D (R201), 4 cycles. -/
def execOraAbsolute (w : Word) (s : State) : Host.Outcome State Fault Refusal :=
  .next (readStep 3 4 false (absolute w) oraEffect s)

/-- ORA ($nn),Y, 0x11 (R201), 5 cycles, one more if the page is crossed. -/
def execOraIndirectIndexed (zp : Byte) (s : State) : Host.Outcome State Fault Refusal :=
  .next (readStep 2 5 true (indirectIndexed zp) oraEffect s)

/-- ORA $nn,X, 0x15 (R201), 4 cycles. -/
def execOraZeroPageX (zp : Byte) (s : State) : Host.Outcome State Fault Refusal :=
  .next (readStep 2 4 false (zeroPageX zp) oraEffect s)

/-- ORA $hhll,Y, 0x19 (R201), 4 cycles, one more if the page is crossed. -/
def execOraAbsoluteY (w : Word) (s : State) : Host.Outcome State Fault Refusal :=
  .next (readStep 3 4 true (absoluteY w) oraEffect s)

/-- ORA $hhll,X, 0x1D (R201), 4 cycles, one more if the page is crossed. -/
def execOraAbsoluteX (w : Word) (s : State) : Host.Outcome State Fault Refusal :=
  .next (readStep 3 4 true (absoluteX w) oraEffect s)

/-- EOR ($nn,X), 0x41 (R202), 6 cycles. -/
def execEorIndexedIndirect (zp : Byte) (s : State) : Host.Outcome State Fault Refusal :=
  .next (readStep 2 6 false (indexedIndirect zp) eorEffect s)

/-- EOR $nn, 0x45 (R202), 3 cycles. -/
def execEorZeroPage (zp : Byte) (s : State) : Host.Outcome State Fault Refusal :=
  .next (readStep 2 3 false (zeroPage zp) eorEffect s)

/-- EOR #$nn, 0x49 (R202), 2 cycles. -/
def execEorImmediate (imm : Byte) (s : State) : Host.Outcome State Fault Refusal :=
  .next (immediateStep 2 eorEffect imm s)

/-- EOR $hhll, 0x4D (R202), 4 cycles. -/
def execEorAbsolute (w : Word) (s : State) : Host.Outcome State Fault Refusal :=
  .next (readStep 3 4 false (absolute w) eorEffect s)

/-- EOR ($nn),Y, 0x51 (R202), 5 cycles, one more if the page is crossed. -/
def execEorIndirectIndexed (zp : Byte) (s : State) : Host.Outcome State Fault Refusal :=
  .next (readStep 2 5 true (indirectIndexed zp) eorEffect s)

/-- EOR $nn,X, 0x55 (R202), 4 cycles. -/
def execEorZeroPageX (zp : Byte) (s : State) : Host.Outcome State Fault Refusal :=
  .next (readStep 2 4 false (zeroPageX zp) eorEffect s)

/-- EOR $hhll,Y, 0x59 (R202), 4 cycles, one more if the page is crossed. -/
def execEorAbsoluteY (w : Word) (s : State) : Host.Outcome State Fault Refusal :=
  .next (readStep 3 4 true (absoluteY w) eorEffect s)

/-- EOR $hhll,X, 0x5D (R202), 4 cycles, one more if the page is crossed. -/
def execEorAbsoluteX (w : Word) (s : State) : Host.Outcome State Fault Refusal :=
  .next (readStep 3 4 true (absoluteX w) eorEffect s)

/-- BIT $nn, 0x24 (R203), 3 cycles. -/
def execBitZeroPage (zp : Byte) (s : State) : Host.Outcome State Fault Refusal :=
  .next (readStep 2 3 false (zeroPage zp) bitEffect s)

/-- BIT $hhll, 0x2C (R203), 4 cycles. -/
def execBitAbsolute (w : Word) (s : State) : Host.Outcome State Fault Refusal :=
  .next (readStep 3 4 false (absolute w) bitEffect s)

/-- ASL $nn, 0x06 (R204), 5 cycles. -/
def execAslZeroPage (zp : Byte) (s : State) : Host.Outcome State Fault Refusal :=
  .next (modifyStep 2 5 (zeroPage zp) aslResult leftEffect s)

/-- ASL A, 0x0A (R204), 2 cycles. -/
def execAslAccumulator (s : State) : Host.Outcome State Fault Refusal :=
  .next (accumulatorStep 2 aslResult leftEffect s)

/-- ASL $hhll, 0x0E (R204), 6 cycles. -/
def execAslAbsolute (w : Word) (s : State) : Host.Outcome State Fault Refusal :=
  .next (modifyStep 3 6 (absolute w) aslResult leftEffect s)

/-- ASL $nn,X, 0x16 (R204), 6 cycles. -/
def execAslZeroPageX (zp : Byte) (s : State) : Host.Outcome State Fault Refusal :=
  .next (modifyStep 2 6 (zeroPageX zp) aslResult leftEffect s)

/-- ASL $hhll,X, 0x1E (R204), 7 cycles. -/
def execAslAbsoluteX (w : Word) (s : State) : Host.Outcome State Fault Refusal :=
  .next (modifyStep 3 7 (absoluteX w) aslResult leftEffect s)

/-- LSR $nn, 0x46 (R205), 5 cycles. -/
def execLsrZeroPage (zp : Byte) (s : State) : Host.Outcome State Fault Refusal :=
  .next (modifyStep 2 5 (zeroPage zp) lsrResult rightEffect s)

/-- LSR A, 0x4A (R205), 2 cycles. -/
def execLsrAccumulator (s : State) : Host.Outcome State Fault Refusal :=
  .next (accumulatorStep 2 lsrResult rightEffect s)

/-- LSR $hhll, 0x4E (R205), 6 cycles. -/
def execLsrAbsolute (w : Word) (s : State) : Host.Outcome State Fault Refusal :=
  .next (modifyStep 3 6 (absolute w) lsrResult rightEffect s)

/-- LSR $nn,X, 0x56 (R205), 6 cycles. -/
def execLsrZeroPageX (zp : Byte) (s : State) : Host.Outcome State Fault Refusal :=
  .next (modifyStep 2 6 (zeroPageX zp) lsrResult rightEffect s)

/-- LSR $hhll,X, 0x5E (R205), 7 cycles. -/
def execLsrAbsoluteX (w : Word) (s : State) : Host.Outcome State Fault Refusal :=
  .next (modifyStep 3 7 (absoluteX w) lsrResult rightEffect s)

/-- ROL $nn, 0x26 (R206), 5 cycles. -/
def execRolZeroPage (zp : Byte) (s : State) : Host.Outcome State Fault Refusal :=
  .next (modifyStep 2 5 (zeroPage zp) rolResult leftEffect s)

/-- ROL A, 0x2A (R206), 2 cycles. -/
def execRolAccumulator (s : State) : Host.Outcome State Fault Refusal :=
  .next (accumulatorStep 2 rolResult leftEffect s)

/-- ROL $hhll, 0x2E (R206), 6 cycles. -/
def execRolAbsolute (w : Word) (s : State) : Host.Outcome State Fault Refusal :=
  .next (modifyStep 3 6 (absolute w) rolResult leftEffect s)

/-- ROL $nn,X, 0x36 (R206), 6 cycles. -/
def execRolZeroPageX (zp : Byte) (s : State) : Host.Outcome State Fault Refusal :=
  .next (modifyStep 2 6 (zeroPageX zp) rolResult leftEffect s)

/-- ROL $hhll,X, 0x3E (R206), 7 cycles. -/
def execRolAbsoluteX (w : Word) (s : State) : Host.Outcome State Fault Refusal :=
  .next (modifyStep 3 7 (absoluteX w) rolResult leftEffect s)

/-- ROR $nn, 0x66 (R207), 5 cycles. -/
def execRorZeroPage (zp : Byte) (s : State) : Host.Outcome State Fault Refusal :=
  .next (modifyStep 2 5 (zeroPage zp) rorResult rightEffect s)

/-- ROR A, 0x6A (R207), 2 cycles. -/
def execRorAccumulator (s : State) : Host.Outcome State Fault Refusal :=
  .next (accumulatorStep 2 rorResult rightEffect s)

/-- ROR $hhll, 0x6E (R207), 6 cycles. -/
def execRorAbsolute (w : Word) (s : State) : Host.Outcome State Fault Refusal :=
  .next (modifyStep 3 6 (absolute w) rorResult rightEffect s)

/-- ROR $nn,X, 0x76 (R207), 6 cycles. -/
def execRorZeroPageX (zp : Byte) (s : State) : Host.Outcome State Fault Refusal :=
  .next (modifyStep 2 6 (zeroPageX zp) rorResult rightEffect s)

/-- ROR $hhll,X, 0x7E (R207), 7 cycles. -/
def execRorAbsoluteX (w : Word) (s : State) : Host.Outcome State Fault Refusal :=
  .next (modifyStep 3 7 (absoluteX w) rorResult rightEffect s)

end Sys2Proof.Machine
end

