-- ==== Sys2Proof/Machine/Undocumented.lean ====
section
/-! DEFINITION. The supported undocumented instructions (46_undocumented.md R265 to R275) and the unsupported opcodes (30_encoding.md R131). -/

namespace Sys2Proof.Machine

/-- `A <- m`, `X <- m`, Z and N (R266). -/
def laxEffect (m : Byte) (s : State) : State := ((s.setA m).setX m).setFlags (setZN m s.flags)

/-- DCP after the write of `r`: compare A with it (R268). -/
def dcpEffect (_m r : Byte) (s : State) : State := cmpEffect r s

/-- ISB after the write of `r`: subtract it (R269). -/
def isbEffect (_m r : Byte) (s : State) : State := sbcEffect r s

/-- SLO after the write of `r`: C from bit 7 of the old byte, then OR into A (R270). -/
def sloEffect (m r : Byte) (s : State) : State := oraEffect r (s.setFlags { s.flags with c := m.getLsbD 7 })

/-- RLA after the write of `r`: C from bit 7 of the old byte, then AND into A (R271). -/
def rlaEffect (m r : Byte) (s : State) : State := andEffect r (s.setFlags { s.flags with c := m.getLsbD 7 })

/-- SRE after the write of `r`: C from bit 0 of the old byte, then exclusive-or into A (R272). -/
def sreEffect (m r : Byte) (s : State) : State := eorEffect r (s.setFlags { s.flags with c := m.getLsbD 0 })

/-- RRA after the write of `r`: add it with bit 0 of the old byte as carry-in (R273). -/
def rraEffect (m r : Byte) (s : State) : State := adcEffect r (s.setFlags { s.flags with c := m.getLsbD 0 })

/-- What an undocumented NOP does with the byte it reads: nothing (R274). -/
def nopEffect (_m : Byte) (s : State) : State := s

/-- LAX ($nn,X), 0xA3 (R266), 6 cycles. -/
def execLaxIndexedIndirect (zp : Byte) (s : State) : Host.Outcome State Fault Refusal :=
  .next (undocumented 0xA3 (readStep 2 6 false (indexedIndirect zp) laxEffect) s)

/-- LAX $nn, 0xA7 (R266), 3 cycles. -/
def execLaxZeroPage (zp : Byte) (s : State) : Host.Outcome State Fault Refusal :=
  .next (undocumented 0xA7 (readStep 2 3 false (zeroPage zp) laxEffect) s)

/-- LAX $hhll, 0xAF (R266), 4 cycles. -/
def execLaxAbsolute (w : Word) (s : State) : Host.Outcome State Fault Refusal :=
  .next (undocumented 0xAF (readStep 3 4 false (absolute w) laxEffect) s)

/-- LAX ($nn),Y, 0xB3 (R266), 5 cycles, one more if the page is crossed. -/
def execLaxIndirectIndexed (zp : Byte) (s : State) : Host.Outcome State Fault Refusal :=
  .next (undocumented 0xB3 (readStep 2 5 true (indirectIndexed zp) laxEffect) s)

/-- LAX $nn,Y, 0xB7 (R266), 4 cycles. -/
def execLaxZeroPageY (zp : Byte) (s : State) : Host.Outcome State Fault Refusal :=
  .next (undocumented 0xB7 (readStep 2 4 false (zeroPageY zp) laxEffect) s)

/-- LAX $hhll,Y, 0xBF (R266), 4 cycles, one more if the page is crossed. -/
def execLaxAbsoluteY (w : Word) (s : State) : Host.Outcome State Fault Refusal :=
  .next (undocumented 0xBF (readStep 3 4 true (absoluteY w) laxEffect) s)

/-- SAX ($nn,X), 0x83 (R267), 6 cycles. -/
def execSaxIndexedIndirect (zp : Byte) (s : State) : Host.Outcome State Fault Refusal :=
  .next (undocumented 0x83 (storeStep 2 6 (indexedIndirect zp) (fun t => t.a &&& t.x)) s)

/-- SAX $nn, 0x87 (R267), 3 cycles. -/
def execSaxZeroPage (zp : Byte) (s : State) : Host.Outcome State Fault Refusal :=
  .next (undocumented 0x87 (storeStep 2 3 (zeroPage zp) (fun t => t.a &&& t.x)) s)

/-- SAX $hhll, 0x8F (R267), 4 cycles. -/
def execSaxAbsolute (w : Word) (s : State) : Host.Outcome State Fault Refusal :=
  .next (undocumented 0x8F (storeStep 3 4 (absolute w) (fun t => t.a &&& t.x)) s)

/-- SAX $nn,Y, 0x97 (R267), 4 cycles. -/
def execSaxZeroPageY (zp : Byte) (s : State) : Host.Outcome State Fault Refusal :=
  .next (undocumented 0x97 (storeStep 2 4 (zeroPageY zp) (fun t => t.a &&& t.x)) s)

/-- DCP ($nn,X), 0xC3 (R268), 8 cycles. -/
def execDcpIndexedIndirect (zp : Byte) (s : State) : Host.Outcome State Fault Refusal :=
  .next (undocumented 0xC3 (modifyStep 2 8 (indexedIndirect zp) decResult dcpEffect) s)

/-- DCP $nn, 0xC7 (R268), 5 cycles. -/
def execDcpZeroPage (zp : Byte) (s : State) : Host.Outcome State Fault Refusal :=
  .next (undocumented 0xC7 (modifyStep 2 5 (zeroPage zp) decResult dcpEffect) s)

/-- DCP $hhll, 0xCF (R268), 6 cycles. -/
def execDcpAbsolute (w : Word) (s : State) : Host.Outcome State Fault Refusal :=
  .next (undocumented 0xCF (modifyStep 3 6 (absolute w) decResult dcpEffect) s)

/-- DCP ($nn),Y, 0xD3 (R268), 8 cycles. -/
def execDcpIndirectIndexed (zp : Byte) (s : State) : Host.Outcome State Fault Refusal :=
  .next (undocumented 0xD3 (modifyStep 2 8 (indirectIndexed zp) decResult dcpEffect) s)

/-- DCP $nn,X, 0xD7 (R268), 6 cycles. -/
def execDcpZeroPageX (zp : Byte) (s : State) : Host.Outcome State Fault Refusal :=
  .next (undocumented 0xD7 (modifyStep 2 6 (zeroPageX zp) decResult dcpEffect) s)

/-- DCP $hhll,Y, 0xDB (R268), 7 cycles. -/
def execDcpAbsoluteY (w : Word) (s : State) : Host.Outcome State Fault Refusal :=
  .next (undocumented 0xDB (modifyStep 3 7 (absoluteY w) decResult dcpEffect) s)

/-- DCP $hhll,X, 0xDF (R268), 7 cycles. -/
def execDcpAbsoluteX (w : Word) (s : State) : Host.Outcome State Fault Refusal :=
  .next (undocumented 0xDF (modifyStep 3 7 (absoluteX w) decResult dcpEffect) s)

/-- ISB ($nn,X), 0xE3 (R269), 8 cycles. -/
def execIsbIndexedIndirect (zp : Byte) (s : State) : Host.Outcome State Fault Refusal :=
  .next (undocumented 0xE3 (modifyStep 2 8 (indexedIndirect zp) incResult isbEffect) s)

/-- ISB $nn, 0xE7 (R269), 5 cycles. -/
def execIsbZeroPage (zp : Byte) (s : State) : Host.Outcome State Fault Refusal :=
  .next (undocumented 0xE7 (modifyStep 2 5 (zeroPage zp) incResult isbEffect) s)

/-- ISB $hhll, 0xEF (R269), 6 cycles. -/
def execIsbAbsolute (w : Word) (s : State) : Host.Outcome State Fault Refusal :=
  .next (undocumented 0xEF (modifyStep 3 6 (absolute w) incResult isbEffect) s)

/-- ISB ($nn),Y, 0xF3 (R269), 8 cycles. -/
def execIsbIndirectIndexed (zp : Byte) (s : State) : Host.Outcome State Fault Refusal :=
  .next (undocumented 0xF3 (modifyStep 2 8 (indirectIndexed zp) incResult isbEffect) s)

/-- ISB $nn,X, 0xF7 (R269), 6 cycles. -/
def execIsbZeroPageX (zp : Byte) (s : State) : Host.Outcome State Fault Refusal :=
  .next (undocumented 0xF7 (modifyStep 2 6 (zeroPageX zp) incResult isbEffect) s)

/-- ISB $hhll,Y, 0xFB (R269), 7 cycles. -/
def execIsbAbsoluteY (w : Word) (s : State) : Host.Outcome State Fault Refusal :=
  .next (undocumented 0xFB (modifyStep 3 7 (absoluteY w) incResult isbEffect) s)

/-- ISB $hhll,X, 0xFF (R269), 7 cycles. -/
def execIsbAbsoluteX (w : Word) (s : State) : Host.Outcome State Fault Refusal :=
  .next (undocumented 0xFF (modifyStep 3 7 (absoluteX w) incResult isbEffect) s)

/-- SLO ($nn,X), 0x03 (R270), 8 cycles. -/
def execSloIndexedIndirect (zp : Byte) (s : State) : Host.Outcome State Fault Refusal :=
  .next (undocumented 0x03 (modifyStep 2 8 (indexedIndirect zp) aslResult sloEffect) s)

/-- SLO $nn, 0x07 (R270), 5 cycles. -/
def execSloZeroPage (zp : Byte) (s : State) : Host.Outcome State Fault Refusal :=
  .next (undocumented 0x07 (modifyStep 2 5 (zeroPage zp) aslResult sloEffect) s)

/-- SLO $hhll, 0x0F (R270), 6 cycles. -/
def execSloAbsolute (w : Word) (s : State) : Host.Outcome State Fault Refusal :=
  .next (undocumented 0x0F (modifyStep 3 6 (absolute w) aslResult sloEffect) s)

/-- SLO ($nn),Y, 0x13 (R270), 8 cycles. -/
def execSloIndirectIndexed (zp : Byte) (s : State) : Host.Outcome State Fault Refusal :=
  .next (undocumented 0x13 (modifyStep 2 8 (indirectIndexed zp) aslResult sloEffect) s)

/-- SLO $nn,X, 0x17 (R270), 6 cycles. -/
def execSloZeroPageX (zp : Byte) (s : State) : Host.Outcome State Fault Refusal :=
  .next (undocumented 0x17 (modifyStep 2 6 (zeroPageX zp) aslResult sloEffect) s)

/-- SLO $hhll,Y, 0x1B (R270), 7 cycles. -/
def execSloAbsoluteY (w : Word) (s : State) : Host.Outcome State Fault Refusal :=
  .next (undocumented 0x1B (modifyStep 3 7 (absoluteY w) aslResult sloEffect) s)

/-- SLO $hhll,X, 0x1F (R270), 7 cycles. -/
def execSloAbsoluteX (w : Word) (s : State) : Host.Outcome State Fault Refusal :=
  .next (undocumented 0x1F (modifyStep 3 7 (absoluteX w) aslResult sloEffect) s)

/-- RLA ($nn,X), 0x23 (R271), 8 cycles. -/
def execRlaIndexedIndirect (zp : Byte) (s : State) : Host.Outcome State Fault Refusal :=
  .next (undocumented 0x23 (modifyStep 2 8 (indexedIndirect zp) rolResult rlaEffect) s)

/-- RLA $nn, 0x27 (R271), 5 cycles. -/
def execRlaZeroPage (zp : Byte) (s : State) : Host.Outcome State Fault Refusal :=
  .next (undocumented 0x27 (modifyStep 2 5 (zeroPage zp) rolResult rlaEffect) s)

/-- RLA $hhll, 0x2F (R271), 6 cycles. -/
def execRlaAbsolute (w : Word) (s : State) : Host.Outcome State Fault Refusal :=
  .next (undocumented 0x2F (modifyStep 3 6 (absolute w) rolResult rlaEffect) s)

/-- RLA ($nn),Y, 0x33 (R271), 8 cycles. -/
def execRlaIndirectIndexed (zp : Byte) (s : State) : Host.Outcome State Fault Refusal :=
  .next (undocumented 0x33 (modifyStep 2 8 (indirectIndexed zp) rolResult rlaEffect) s)

/-- RLA $nn,X, 0x37 (R271), 6 cycles. -/
def execRlaZeroPageX (zp : Byte) (s : State) : Host.Outcome State Fault Refusal :=
  .next (undocumented 0x37 (modifyStep 2 6 (zeroPageX zp) rolResult rlaEffect) s)

/-- RLA $hhll,Y, 0x3B (R271), 7 cycles. -/
def execRlaAbsoluteY (w : Word) (s : State) : Host.Outcome State Fault Refusal :=
  .next (undocumented 0x3B (modifyStep 3 7 (absoluteY w) rolResult rlaEffect) s)

/-- RLA $hhll,X, 0x3F (R271), 7 cycles. -/
def execRlaAbsoluteX (w : Word) (s : State) : Host.Outcome State Fault Refusal :=
  .next (undocumented 0x3F (modifyStep 3 7 (absoluteX w) rolResult rlaEffect) s)

/-- SRE ($nn,X), 0x43 (R272), 8 cycles. -/
def execSreIndexedIndirect (zp : Byte) (s : State) : Host.Outcome State Fault Refusal :=
  .next (undocumented 0x43 (modifyStep 2 8 (indexedIndirect zp) lsrResult sreEffect) s)

/-- SRE $nn, 0x47 (R272), 5 cycles. -/
def execSreZeroPage (zp : Byte) (s : State) : Host.Outcome State Fault Refusal :=
  .next (undocumented 0x47 (modifyStep 2 5 (zeroPage zp) lsrResult sreEffect) s)

/-- SRE $hhll, 0x4F (R272), 6 cycles. -/
def execSreAbsolute (w : Word) (s : State) : Host.Outcome State Fault Refusal :=
  .next (undocumented 0x4F (modifyStep 3 6 (absolute w) lsrResult sreEffect) s)

/-- SRE ($nn),Y, 0x53 (R272), 8 cycles. -/
def execSreIndirectIndexed (zp : Byte) (s : State) : Host.Outcome State Fault Refusal :=
  .next (undocumented 0x53 (modifyStep 2 8 (indirectIndexed zp) lsrResult sreEffect) s)

/-- SRE $nn,X, 0x57 (R272), 6 cycles. -/
def execSreZeroPageX (zp : Byte) (s : State) : Host.Outcome State Fault Refusal :=
  .next (undocumented 0x57 (modifyStep 2 6 (zeroPageX zp) lsrResult sreEffect) s)

/-- SRE $hhll,Y, 0x5B (R272), 7 cycles. -/
def execSreAbsoluteY (w : Word) (s : State) : Host.Outcome State Fault Refusal :=
  .next (undocumented 0x5B (modifyStep 3 7 (absoluteY w) lsrResult sreEffect) s)

/-- SRE $hhll,X, 0x5F (R272), 7 cycles. -/
def execSreAbsoluteX (w : Word) (s : State) : Host.Outcome State Fault Refusal :=
  .next (undocumented 0x5F (modifyStep 3 7 (absoluteX w) lsrResult sreEffect) s)

/-- RRA ($nn,X), 0x63 (R273), 8 cycles. -/
def execRraIndexedIndirect (zp : Byte) (s : State) : Host.Outcome State Fault Refusal :=
  .next (undocumented 0x63 (modifyStep 2 8 (indexedIndirect zp) rorResult rraEffect) s)

/-- RRA $nn, 0x67 (R273), 5 cycles. -/
def execRraZeroPage (zp : Byte) (s : State) : Host.Outcome State Fault Refusal :=
  .next (undocumented 0x67 (modifyStep 2 5 (zeroPage zp) rorResult rraEffect) s)

/-- RRA $hhll, 0x6F (R273), 6 cycles. -/
def execRraAbsolute (w : Word) (s : State) : Host.Outcome State Fault Refusal :=
  .next (undocumented 0x6F (modifyStep 3 6 (absolute w) rorResult rraEffect) s)

/-- RRA ($nn),Y, 0x73 (R273), 8 cycles. -/
def execRraIndirectIndexed (zp : Byte) (s : State) : Host.Outcome State Fault Refusal :=
  .next (undocumented 0x73 (modifyStep 2 8 (indirectIndexed zp) rorResult rraEffect) s)

/-- RRA $nn,X, 0x77 (R273), 6 cycles. -/
def execRraZeroPageX (zp : Byte) (s : State) : Host.Outcome State Fault Refusal :=
  .next (undocumented 0x77 (modifyStep 2 6 (zeroPageX zp) rorResult rraEffect) s)

/-- RRA $hhll,Y, 0x7B (R273), 7 cycles. -/
def execRraAbsoluteY (w : Word) (s : State) : Host.Outcome State Fault Refusal :=
  .next (undocumented 0x7B (modifyStep 3 7 (absoluteY w) rorResult rraEffect) s)

/-- RRA $hhll,X, 0x7F (R273), 7 cycles. -/
def execRraAbsoluteX (w : Word) (s : State) : Host.Outcome State Fault Refusal :=
  .next (undocumented 0x7F (modifyStep 3 7 (absoluteX w) rorResult rraEffect) s)

/-- NOP $nn, 0x04 (R274), 3 cycles. -/
def execNopZeroPage04 (zp : Byte) (s : State) : Host.Outcome State Fault Refusal :=
  .next (undocumented 0x04 (readStep 2 3 false (zeroPage zp) nopEffect) s)

/-- NOP $hhll, 0x0C (R274), 4 cycles. -/
def execNopAbsolute0C (w : Word) (s : State) : Host.Outcome State Fault Refusal :=
  .next (undocumented 0x0C (readStep 3 4 false (absolute w) nopEffect) s)

/-- NOP $nn,X, 0x14 (R274), 4 cycles. -/
def execNopZeroPageX14 (zp : Byte) (s : State) : Host.Outcome State Fault Refusal :=
  .next (undocumented 0x14 (readStep 2 4 false (zeroPageX zp) nopEffect) s)

/-- NOP, 0x1A (R274), 2 cycles. -/
def execNopImplied1A (s : State) : Host.Outcome State Fault Refusal :=
  .next (undocumented 0x1A (impliedStep 2 (fun t => t)) s)

/-- NOP $hhll,X, 0x1C (R274), 4 cycles, one more if the page is crossed. -/
def execNopAbsoluteX1C (w : Word) (s : State) : Host.Outcome State Fault Refusal :=
  .next (undocumented 0x1C (readStep 3 4 true (absoluteX w) nopEffect) s)

/-- NOP $nn,X, 0x34 (R274), 4 cycles. -/
def execNopZeroPageX34 (zp : Byte) (s : State) : Host.Outcome State Fault Refusal :=
  .next (undocumented 0x34 (readStep 2 4 false (zeroPageX zp) nopEffect) s)

/-- NOP, 0x3A (R274), 2 cycles. -/
def execNopImplied3A (s : State) : Host.Outcome State Fault Refusal :=
  .next (undocumented 0x3A (impliedStep 2 (fun t => t)) s)

/-- NOP $hhll,X, 0x3C (R274), 4 cycles, one more if the page is crossed. -/
def execNopAbsoluteX3C (w : Word) (s : State) : Host.Outcome State Fault Refusal :=
  .next (undocumented 0x3C (readStep 3 4 true (absoluteX w) nopEffect) s)

/-- NOP $nn, 0x44 (R274), 3 cycles. -/
def execNopZeroPage44 (zp : Byte) (s : State) : Host.Outcome State Fault Refusal :=
  .next (undocumented 0x44 (readStep 2 3 false (zeroPage zp) nopEffect) s)

/-- NOP $nn,X, 0x54 (R274), 4 cycles. -/
def execNopZeroPageX54 (zp : Byte) (s : State) : Host.Outcome State Fault Refusal :=
  .next (undocumented 0x54 (readStep 2 4 false (zeroPageX zp) nopEffect) s)

/-- NOP, 0x5A (R274), 2 cycles. -/
def execNopImplied5A (s : State) : Host.Outcome State Fault Refusal :=
  .next (undocumented 0x5A (impliedStep 2 (fun t => t)) s)

/-- NOP $hhll,X, 0x5C (R274), 4 cycles, one more if the page is crossed. -/
def execNopAbsoluteX5C (w : Word) (s : State) : Host.Outcome State Fault Refusal :=
  .next (undocumented 0x5C (readStep 3 4 true (absoluteX w) nopEffect) s)

/-- NOP $nn, 0x64 (R274), 3 cycles. -/
def execNopZeroPage64 (zp : Byte) (s : State) : Host.Outcome State Fault Refusal :=
  .next (undocumented 0x64 (readStep 2 3 false (zeroPage zp) nopEffect) s)

/-- NOP $nn,X, 0x74 (R274), 4 cycles. -/
def execNopZeroPageX74 (zp : Byte) (s : State) : Host.Outcome State Fault Refusal :=
  .next (undocumented 0x74 (readStep 2 4 false (zeroPageX zp) nopEffect) s)

/-- NOP, 0x7A (R274), 2 cycles. -/
def execNopImplied7A (s : State) : Host.Outcome State Fault Refusal :=
  .next (undocumented 0x7A (impliedStep 2 (fun t => t)) s)

/-- NOP $hhll,X, 0x7C (R274), 4 cycles, one more if the page is crossed. -/
def execNopAbsoluteX7C (w : Word) (s : State) : Host.Outcome State Fault Refusal :=
  .next (undocumented 0x7C (readStep 3 4 true (absoluteX w) nopEffect) s)

/-- NOP #$nn, 0x80 (R274), 2 cycles. -/
def execNopImmediate80 (imm : Byte) (s : State) : Host.Outcome State Fault Refusal :=
  .next (undocumented 0x80 (immediateStep 2 nopEffect imm) s)

/-- NOP #$nn, 0x82 (R274), 2 cycles. -/
def execNopImmediate82 (imm : Byte) (s : State) : Host.Outcome State Fault Refusal :=
  .next (undocumented 0x82 (immediateStep 2 nopEffect imm) s)

/-- NOP #$nn, 0x89 (R274), 2 cycles. -/
def execNopImmediate89 (imm : Byte) (s : State) : Host.Outcome State Fault Refusal :=
  .next (undocumented 0x89 (immediateStep 2 nopEffect imm) s)

/-- NOP #$nn, 0xC2 (R274), 2 cycles. -/
def execNopImmediateC2 (imm : Byte) (s : State) : Host.Outcome State Fault Refusal :=
  .next (undocumented 0xC2 (immediateStep 2 nopEffect imm) s)

/-- NOP $nn,X, 0xD4 (R274), 4 cycles. -/
def execNopZeroPageXD4 (zp : Byte) (s : State) : Host.Outcome State Fault Refusal :=
  .next (undocumented 0xD4 (readStep 2 4 false (zeroPageX zp) nopEffect) s)

/-- NOP, 0xDA (R274), 2 cycles. -/
def execNopImpliedDA (s : State) : Host.Outcome State Fault Refusal :=
  .next (undocumented 0xDA (impliedStep 2 (fun t => t)) s)

/-- NOP $hhll,X, 0xDC (R274), 4 cycles, one more if the page is crossed. -/
def execNopAbsoluteXDC (w : Word) (s : State) : Host.Outcome State Fault Refusal :=
  .next (undocumented 0xDC (readStep 3 4 true (absoluteX w) nopEffect) s)

/-- NOP #$nn, 0xE2 (R274), 2 cycles. -/
def execNopImmediateE2 (imm : Byte) (s : State) : Host.Outcome State Fault Refusal :=
  .next (undocumented 0xE2 (immediateStep 2 nopEffect imm) s)

/-- NOP $nn,X, 0xF4 (R274), 4 cycles. -/
def execNopZeroPageXF4 (zp : Byte) (s : State) : Host.Outcome State Fault Refusal :=
  .next (undocumented 0xF4 (readStep 2 4 false (zeroPageX zp) nopEffect) s)

/-- NOP, 0xFA (R274), 2 cycles. -/
def execNopImpliedFA (s : State) : Host.Outcome State Fault Refusal :=
  .next (undocumented 0xFA (impliedStep 2 (fun t => t)) s)

/-- NOP $hhll,X, 0xFC (R274), 4 cycles, one more if the page is crossed. -/
def execNopAbsoluteXFC (w : Word) (s : State) : Host.Outcome State Fault Refusal :=
  .next (undocumented 0xFC (readStep 3 4 true (absoluteX w) nopEffect) s)

/-- SBC #$nn, 0xEB (R275), 2 cycles. -/
def execSbcImmediateEB (imm : Byte) (s : State) : Host.Outcome State Fault Refusal :=
  .next (undocumented 0xEB (immediateStep 2 sbcEffect imm) s)

/-- UNSUPPORTED (R131): `Fatal.UnsupportedOpcode`, nothing else changed; `PC` still holds the opcode's address (R301). -/
def execUnsupported (op : Byte) (s : State) : Host.Outcome State Fault Refusal :=
  .next (raiseFatal (.unsupportedOpcode op) s)

end Sys2Proof.Machine
end

