-- ==== Sys2Proof/Syntax.lean ====
section
/-! DEFINITION. The instructions: the 13 addressing modes (30_encoding.md R111) and a constructor for each of the 231
supported rows of spec/opcode_table.json (R128 to R130) and one, carrying the opcode byte, for the 25 UNSUPPORTED rows (R131; one
constructor each would pass the 244 that Lean's runtime can tag). A constructor's name is the mnemonic and the mode (no mode for Implied and
Relative); a row whose mnemonic and mode another row has too carries its opcode in its name. -/

namespace Sys2Proof

/-- The 13 addressing modes (R111). -/
inductive Mode where
  | implied
  | accumulator
  | immediate
  | zeroPage
  | zeroPageX
  | zeroPageY
  | absolute
  | absoluteX
  | absoluteY
  | indirect
  | indexedIndirect
  | indirectIndexed
  | relative
  deriving DecidableEq, Repr

/-- How the spec classes an opcode (R128, R131). -/
inductive Status where
  | documented
  /-- Of the 80 opcodes of `UNDOC_SET` (R265). -/
  | undocumented
  /-- One of the 25 opcodes of R131. -/
  | unsupported
  deriving DecidableEq, Repr

/-- An instruction: one constructor per opcode row. `imm` is an immediate byte, `zp` a zero-page byte, `w` and `ptr`
16-bit operands, `off` a signed branch offset. -/
inductive Instr where
  /-- 0x00 BRK (R253). -/
  | brk
  /-- 0x01 ORA ($nn,X) (R201). -/
  | oraIndexedIndirect (zp : Byte)
  /-- 0x03 SLO ($nn,X), undocumented (R270). -/
  | sloIndexedIndirect (zp : Byte)
  /-- 0x04 NOP $nn, undocumented (R274). -/
  | nopZeroPage04 (zp : Byte)
  /-- 0x05 ORA $nn (R201). -/
  | oraZeroPage (zp : Byte)
  /-- 0x06 ASL $nn (R204). -/
  | aslZeroPage (zp : Byte)
  /-- 0x07 SLO $nn, undocumented (R270). -/
  | sloZeroPage (zp : Byte)
  /-- 0x08 PHP (R167). -/
  | php
  /-- 0x09 ORA #$nn (R201). -/
  | oraImmediate (imm : Byte)
  /-- 0x0A ASL A (R204). -/
  | aslAccumulator
  /-- 0x0C NOP $hhll, undocumented (R274). -/
  | nopAbsolute0C (w : Word)
  /-- 0x0D ORA $hhll (R201). -/
  | oraAbsolute (w : Word)
  /-- 0x0E ASL $hhll (R204). -/
  | aslAbsolute (w : Word)
  /-- 0x0F SLO $hhll, undocumented (R270). -/
  | sloAbsolute (w : Word)
  /-- 0x10 BPL label (R226). -/
  | bpl (off : Byte)
  /-- 0x11 ORA ($nn),Y (R201). -/
  | oraIndirectIndexed (zp : Byte)
  /-- 0x13 SLO ($nn),Y, undocumented (R270). -/
  | sloIndirectIndexed (zp : Byte)
  /-- 0x14 NOP $nn,X, undocumented (R274). -/
  | nopZeroPageX14 (zp : Byte)
  /-- 0x15 ORA $nn,X (R201). -/
  | oraZeroPageX (zp : Byte)
  /-- 0x16 ASL $nn,X (R204). -/
  | aslZeroPageX (zp : Byte)
  /-- 0x17 SLO $nn,X, undocumented (R270). -/
  | sloZeroPageX (zp : Byte)
  /-- 0x18 CLC (R245). -/
  | clc
  /-- 0x19 ORA $hhll,Y (R201). -/
  | oraAbsoluteY (w : Word)
  /-- 0x1A NOP, undocumented (R274). -/
  | nopImplied1A
  /-- 0x1B SLO $hhll,Y, undocumented (R270). -/
  | sloAbsoluteY (w : Word)
  /-- 0x1C NOP $hhll,X, undocumented (R274). -/
  | nopAbsoluteX1C (w : Word)
  /-- 0x1D ORA $hhll,X (R201). -/
  | oraAbsoluteX (w : Word)
  /-- 0x1E ASL $hhll,X (R204). -/
  | aslAbsoluteX (w : Word)
  /-- 0x1F SLO $hhll,X, undocumented (R270). -/
  | sloAbsoluteX (w : Word)
  /-- 0x20 JSR $hhll (R230). -/
  | jsrAbsolute (w : Word)
  /-- 0x21 AND ($nn,X) (R200). -/
  | andIndexedIndirect (zp : Byte)
  /-- 0x23 RLA ($nn,X), undocumented (R271). -/
  | rlaIndexedIndirect (zp : Byte)
  /-- 0x24 BIT $nn (R203). -/
  | bitZeroPage (zp : Byte)
  /-- 0x25 AND $nn (R200). -/
  | andZeroPage (zp : Byte)
  /-- 0x26 ROL $nn (R206). -/
  | rolZeroPage (zp : Byte)
  /-- 0x27 RLA $nn, undocumented (R271). -/
  | rlaZeroPage (zp : Byte)
  /-- 0x28 PLP (R169). -/
  | plp
  /-- 0x29 AND #$nn (R200). -/
  | andImmediate (imm : Byte)
  /-- 0x2A ROL A (R206). -/
  | rolAccumulator
  /-- 0x2C BIT $hhll (R203). -/
  | bitAbsolute (w : Word)
  /-- 0x2D AND $hhll (R200). -/
  | andAbsolute (w : Word)
  /-- 0x2E ROL $hhll (R206). -/
  | rolAbsolute (w : Word)
  /-- 0x2F RLA $hhll, undocumented (R271). -/
  | rlaAbsolute (w : Word)
  /-- 0x30 BMI label (R225). -/
  | bmi (off : Byte)
  /-- 0x31 AND ($nn),Y (R200). -/
  | andIndirectIndexed (zp : Byte)
  /-- 0x33 RLA ($nn),Y, undocumented (R271). -/
  | rlaIndirectIndexed (zp : Byte)
  /-- 0x34 NOP $nn,X, undocumented (R274). -/
  | nopZeroPageX34 (zp : Byte)
  /-- 0x35 AND $nn,X (R200). -/
  | andZeroPageX (zp : Byte)
  /-- 0x36 ROL $nn,X (R206). -/
  | rolZeroPageX (zp : Byte)
  /-- 0x37 RLA $nn,X, undocumented (R271). -/
  | rlaZeroPageX (zp : Byte)
  /-- 0x38 SEC (R246). -/
  | sec
  /-- 0x39 AND $hhll,Y (R200). -/
  | andAbsoluteY (w : Word)
  /-- 0x3A NOP, undocumented (R274). -/
  | nopImplied3A
  /-- 0x3B RLA $hhll,Y, undocumented (R271). -/
  | rlaAbsoluteY (w : Word)
  /-- 0x3C NOP $hhll,X, undocumented (R274). -/
  | nopAbsoluteX3C (w : Word)
  /-- 0x3D AND $hhll,X (R200). -/
  | andAbsoluteX (w : Word)
  /-- 0x3E ROL $hhll,X (R206). -/
  | rolAbsoluteX (w : Word)
  /-- 0x3F RLA $hhll,X, undocumented (R271). -/
  | rlaAbsoluteX (w : Word)
  /-- 0x40 RTI (R254). -/
  | rti
  /-- 0x41 EOR ($nn,X) (R202). -/
  | eorIndexedIndirect (zp : Byte)
  /-- 0x43 SRE ($nn,X), undocumented (R272). -/
  | sreIndexedIndirect (zp : Byte)
  /-- 0x44 NOP $nn, undocumented (R274). -/
  | nopZeroPage44 (zp : Byte)
  /-- 0x45 EOR $nn (R202). -/
  | eorZeroPage (zp : Byte)
  /-- 0x46 LSR $nn (R205). -/
  | lsrZeroPage (zp : Byte)
  /-- 0x47 SRE $nn, undocumented (R272). -/
  | sreZeroPage (zp : Byte)
  /-- 0x48 PHA (R166). -/
  | pha
  /-- 0x49 EOR #$nn (R202). -/
  | eorImmediate (imm : Byte)
  /-- 0x4A LSR A (R205). -/
  | lsrAccumulator
  /-- 0x4C JMP $hhll (R229). -/
  | jmpAbsolute (w : Word)
  /-- 0x4D EOR $hhll (R202). -/
  | eorAbsolute (w : Word)
  /-- 0x4E LSR $hhll (R205). -/
  | lsrAbsolute (w : Word)
  /-- 0x4F SRE $hhll, undocumented (R272). -/
  | sreAbsolute (w : Word)
  /-- 0x50 BVC label (R227). -/
  | bvc (off : Byte)
  /-- 0x51 EOR ($nn),Y (R202). -/
  | eorIndirectIndexed (zp : Byte)
  /-- 0x53 SRE ($nn),Y, undocumented (R272). -/
  | sreIndirectIndexed (zp : Byte)
  /-- 0x54 NOP $nn,X, undocumented (R274). -/
  | nopZeroPageX54 (zp : Byte)
  /-- 0x55 EOR $nn,X (R202). -/
  | eorZeroPageX (zp : Byte)
  /-- 0x56 LSR $nn,X (R205). -/
  | lsrZeroPageX (zp : Byte)
  /-- 0x57 SRE $nn,X, undocumented (R272). -/
  | sreZeroPageX (zp : Byte)
  /-- 0x58 CLI (R247). -/
  | cli
  /-- 0x59 EOR $hhll,Y (R202). -/
  | eorAbsoluteY (w : Word)
  /-- 0x5A NOP, undocumented (R274). -/
  | nopImplied5A
  /-- 0x5B SRE $hhll,Y, undocumented (R272). -/
  | sreAbsoluteY (w : Word)
  /-- 0x5C NOP $hhll,X, undocumented (R274). -/
  | nopAbsoluteX5C (w : Word)
  /-- 0x5D EOR $hhll,X (R202). -/
  | eorAbsoluteX (w : Word)
  /-- 0x5E LSR $hhll,X (R205). -/
  | lsrAbsoluteX (w : Word)
  /-- 0x5F SRE $hhll,X, undocumented (R272). -/
  | sreAbsoluteX (w : Word)
  /-- 0x60 RTS (R231). -/
  | rts
  /-- 0x61 ADC ($nn,X) (R181). -/
  | adcIndexedIndirect (zp : Byte)
  /-- 0x63 RRA ($nn,X), undocumented (R273). -/
  | rraIndexedIndirect (zp : Byte)
  /-- 0x64 NOP $nn, undocumented (R274). -/
  | nopZeroPage64 (zp : Byte)
  /-- 0x65 ADC $nn (R181). -/
  | adcZeroPage (zp : Byte)
  /-- 0x66 ROR $nn (R207). -/
  | rorZeroPage (zp : Byte)
  /-- 0x67 RRA $nn, undocumented (R273). -/
  | rraZeroPage (zp : Byte)
  /-- 0x68 PLA (R168). -/
  | pla
  /-- 0x69 ADC #$nn (R181). -/
  | adcImmediate (imm : Byte)
  /-- 0x6A ROR A (R207). -/
  | rorAccumulator
  /-- 0x6C JMP ($hhll) (R229). -/
  | jmpIndirect (ptr : Word)
  /-- 0x6D ADC $hhll (R181). -/
  | adcAbsolute (w : Word)
  /-- 0x6E ROR $hhll (R207). -/
  | rorAbsolute (w : Word)
  /-- 0x6F RRA $hhll, undocumented (R273). -/
  | rraAbsolute (w : Word)
  /-- 0x70 BVS label (R228). -/
  | bvs (off : Byte)
  /-- 0x71 ADC ($nn),Y (R181). -/
  | adcIndirectIndexed (zp : Byte)
  /-- 0x73 RRA ($nn),Y, undocumented (R273). -/
  | rraIndirectIndexed (zp : Byte)
  /-- 0x74 NOP $nn,X, undocumented (R274). -/
  | nopZeroPageX74 (zp : Byte)
  /-- 0x75 ADC $nn,X (R181). -/
  | adcZeroPageX (zp : Byte)
  /-- 0x76 ROR $nn,X (R207). -/
  | rorZeroPageX (zp : Byte)
  /-- 0x77 RRA $nn,X, undocumented (R273). -/
  | rraZeroPageX (zp : Byte)
  /-- 0x78 SEI (R248). -/
  | sei
  /-- 0x79 ADC $hhll,Y (R181). -/
  | adcAbsoluteY (w : Word)
  /-- 0x7A NOP, undocumented (R274). -/
  | nopImplied7A
  /-- 0x7B RRA $hhll,Y, undocumented (R273). -/
  | rraAbsoluteY (w : Word)
  /-- 0x7C NOP $hhll,X, undocumented (R274). -/
  | nopAbsoluteX7C (w : Word)
  /-- 0x7D ADC $hhll,X (R181). -/
  | adcAbsoluteX (w : Word)
  /-- 0x7E ROR $hhll,X (R207). -/
  | rorAbsoluteX (w : Word)
  /-- 0x7F RRA $hhll,X, undocumented (R273). -/
  | rraAbsoluteX (w : Word)
  /-- 0x80 NOP #$nn, undocumented (R274). -/
  | nopImmediate80 (imm : Byte)
  /-- 0x81 STA ($nn,X) (R153). -/
  | staIndexedIndirect (zp : Byte)
  /-- 0x82 NOP #$nn, undocumented (R274). -/
  | nopImmediate82 (imm : Byte)
  /-- 0x83 SAX ($nn,X), undocumented (R267). -/
  | saxIndexedIndirect (zp : Byte)
  /-- 0x84 STY $nn (R155). -/
  | styZeroPage (zp : Byte)
  /-- 0x85 STA $nn (R153). -/
  | staZeroPage (zp : Byte)
  /-- 0x86 STX $nn (R154). -/
  | stxZeroPage (zp : Byte)
  /-- 0x87 SAX $nn, undocumented (R267). -/
  | saxZeroPage (zp : Byte)
  /-- 0x88 DEY (R191). -/
  | dey
  /-- 0x89 NOP #$nn, undocumented (R274). -/
  | nopImmediate89 (imm : Byte)
  /-- 0x8A TXA (R162). -/
  | txa
  /-- 0x8C STY $hhll (R155). -/
  | styAbsolute (w : Word)
  /-- 0x8D STA $hhll (R153). -/
  | staAbsolute (w : Word)
  /-- 0x8E STX $hhll (R154). -/
  | stxAbsolute (w : Word)
  /-- 0x8F SAX $hhll, undocumented (R267). -/
  | saxAbsolute (w : Word)
  /-- 0x90 BCC label (R221). -/
  | bcc (off : Byte)
  /-- 0x91 STA ($nn),Y (R153). -/
  | staIndirectIndexed (zp : Byte)
  /-- 0x94 STY $nn,X (R155). -/
  | styZeroPageX (zp : Byte)
  /-- 0x95 STA $nn,X (R153). -/
  | staZeroPageX (zp : Byte)
  /-- 0x96 STX $nn,Y (R154). -/
  | stxZeroPageY (zp : Byte)
  /-- 0x97 SAX $nn,Y, undocumented (R267). -/
  | saxZeroPageY (zp : Byte)
  /-- 0x98 TYA (R163). -/
  | tya
  /-- 0x99 STA $hhll,Y (R153). -/
  | staAbsoluteY (w : Word)
  /-- 0x9A TXS (R165). -/
  | txs
  /-- 0x9D STA $hhll,X (R153). -/
  | staAbsoluteX (w : Word)
  /-- 0xA0 LDY #$nn (R152). -/
  | ldyImmediate (imm : Byte)
  /-- 0xA1 LDA ($nn,X) (R150). -/
  | ldaIndexedIndirect (zp : Byte)
  /-- 0xA2 LDX #$nn (R151). -/
  | ldxImmediate (imm : Byte)
  /-- 0xA3 LAX ($nn,X), undocumented (R266). -/
  | laxIndexedIndirect (zp : Byte)
  /-- 0xA4 LDY $nn (R152). -/
  | ldyZeroPage (zp : Byte)
  /-- 0xA5 LDA $nn (R150). -/
  | ldaZeroPage (zp : Byte)
  /-- 0xA6 LDX $nn (R151). -/
  | ldxZeroPage (zp : Byte)
  /-- 0xA7 LAX $nn, undocumented (R266). -/
  | laxZeroPage (zp : Byte)
  /-- 0xA8 TAY (R161). -/
  | tay
  /-- 0xA9 LDA #$nn (R150). -/
  | ldaImmediate (imm : Byte)
  /-- 0xAA TAX (R160). -/
  | tax
  /-- 0xAC LDY $hhll (R152). -/
  | ldyAbsolute (w : Word)
  /-- 0xAD LDA $hhll (R150). -/
  | ldaAbsolute (w : Word)
  /-- 0xAE LDX $hhll (R151). -/
  | ldxAbsolute (w : Word)
  /-- 0xAF LAX $hhll, undocumented (R266). -/
  | laxAbsolute (w : Word)
  /-- 0xB0 BCS label (R222). -/
  | bcs (off : Byte)
  /-- 0xB1 LDA ($nn),Y (R150). -/
  | ldaIndirectIndexed (zp : Byte)
  /-- 0xB3 LAX ($nn),Y, undocumented (R266). -/
  | laxIndirectIndexed (zp : Byte)
  /-- 0xB4 LDY $nn,X (R152). -/
  | ldyZeroPageX (zp : Byte)
  /-- 0xB5 LDA $nn,X (R150). -/
  | ldaZeroPageX (zp : Byte)
  /-- 0xB6 LDX $nn,Y (R151). -/
  | ldxZeroPageY (zp : Byte)
  /-- 0xB7 LAX $nn,Y, undocumented (R266). -/
  | laxZeroPageY (zp : Byte)
  /-- 0xB8 CLV (R251). -/
  | clv
  /-- 0xB9 LDA $hhll,Y (R150). -/
  | ldaAbsoluteY (w : Word)
  /-- 0xBA TSX (R164). -/
  | tsx
  /-- 0xBC LDY $hhll,X (R152). -/
  | ldyAbsoluteX (w : Word)
  /-- 0xBD LDA $hhll,X (R150). -/
  | ldaAbsoluteX (w : Word)
  /-- 0xBE LDX $hhll,Y (R151). -/
  | ldxAbsoluteY (w : Word)
  /-- 0xBF LAX $hhll,Y, undocumented (R266). -/
  | laxAbsoluteY (w : Word)
  /-- 0xC0 CPY #$nn (R185). -/
  | cpyImmediate (imm : Byte)
  /-- 0xC1 CMP ($nn,X) (R183). -/
  | cmpIndexedIndirect (zp : Byte)
  /-- 0xC2 NOP #$nn, undocumented (R274). -/
  | nopImmediateC2 (imm : Byte)
  /-- 0xC3 DCP ($nn,X), undocumented (R268). -/
  | dcpIndexedIndirect (zp : Byte)
  /-- 0xC4 CPY $nn (R185). -/
  | cpyZeroPage (zp : Byte)
  /-- 0xC5 CMP $nn (R183). -/
  | cmpZeroPage (zp : Byte)
  /-- 0xC6 DEC $nn (R187). -/
  | decZeroPage (zp : Byte)
  /-- 0xC7 DCP $nn, undocumented (R268). -/
  | dcpZeroPage (zp : Byte)
  /-- 0xC8 INY (R189). -/
  | iny
  /-- 0xC9 CMP #$nn (R183). -/
  | cmpImmediate (imm : Byte)
  /-- 0xCA DEX (R190). -/
  | dex
  /-- 0xCC CPY $hhll (R185). -/
  | cpyAbsolute (w : Word)
  /-- 0xCD CMP $hhll (R183). -/
  | cmpAbsolute (w : Word)
  /-- 0xCE DEC $hhll (R187). -/
  | decAbsolute (w : Word)
  /-- 0xCF DCP $hhll, undocumented (R268). -/
  | dcpAbsolute (w : Word)
  /-- 0xD0 BNE label (R224). -/
  | bne (off : Byte)
  /-- 0xD1 CMP ($nn),Y (R183). -/
  | cmpIndirectIndexed (zp : Byte)
  /-- 0xD3 DCP ($nn),Y, undocumented (R268). -/
  | dcpIndirectIndexed (zp : Byte)
  /-- 0xD4 NOP $nn,X, undocumented (R274). -/
  | nopZeroPageXD4 (zp : Byte)
  /-- 0xD5 CMP $nn,X (R183). -/
  | cmpZeroPageX (zp : Byte)
  /-- 0xD6 DEC $nn,X (R187). -/
  | decZeroPageX (zp : Byte)
  /-- 0xD7 DCP $nn,X, undocumented (R268). -/
  | dcpZeroPageX (zp : Byte)
  /-- 0xD8 CLD (R249). -/
  | cld
  /-- 0xD9 CMP $hhll,Y (R183). -/
  | cmpAbsoluteY (w : Word)
  /-- 0xDA NOP, undocumented (R274). -/
  | nopImpliedDA
  /-- 0xDB DCP $hhll,Y, undocumented (R268). -/
  | dcpAbsoluteY (w : Word)
  /-- 0xDC NOP $hhll,X, undocumented (R274). -/
  | nopAbsoluteXDC (w : Word)
  /-- 0xDD CMP $hhll,X (R183). -/
  | cmpAbsoluteX (w : Word)
  /-- 0xDE DEC $hhll,X (R187). -/
  | decAbsoluteX (w : Word)
  /-- 0xDF DCP $hhll,X, undocumented (R268). -/
  | dcpAbsoluteX (w : Word)
  /-- 0xE0 CPX #$nn (R184). -/
  | cpxImmediate (imm : Byte)
  /-- 0xE1 SBC ($nn,X) (R182). -/
  | sbcIndexedIndirect (zp : Byte)
  /-- 0xE2 NOP #$nn, undocumented (R274). -/
  | nopImmediateE2 (imm : Byte)
  /-- 0xE3 ISB ($nn,X), undocumented (R269). -/
  | isbIndexedIndirect (zp : Byte)
  /-- 0xE4 CPX $nn (R184). -/
  | cpxZeroPage (zp : Byte)
  /-- 0xE5 SBC $nn (R182). -/
  | sbcZeroPage (zp : Byte)
  /-- 0xE6 INC $nn (R186). -/
  | incZeroPage (zp : Byte)
  /-- 0xE7 ISB $nn, undocumented (R269). -/
  | isbZeroPage (zp : Byte)
  /-- 0xE8 INX (R188). -/
  | inx
  /-- 0xE9 SBC #$nn (R182). -/
  | sbcImmediate (imm : Byte)
  /-- 0xEA NOP (R252). -/
  | nop
  /-- 0xEB SBC #$nn, undocumented (R275). -/
  | sbcImmediateEB (imm : Byte)
  /-- 0xEC CPX $hhll (R184). -/
  | cpxAbsolute (w : Word)
  /-- 0xED SBC $hhll (R182). -/
  | sbcAbsolute (w : Word)
  /-- 0xEE INC $hhll (R186). -/
  | incAbsolute (w : Word)
  /-- 0xEF ISB $hhll, undocumented (R269). -/
  | isbAbsolute (w : Word)
  /-- 0xF0 BEQ label (R223). -/
  | beq (off : Byte)
  /-- 0xF1 SBC ($nn),Y (R182). -/
  | sbcIndirectIndexed (zp : Byte)
  /-- 0xF3 ISB ($nn),Y, undocumented (R269). -/
  | isbIndirectIndexed (zp : Byte)
  /-- 0xF4 NOP $nn,X, undocumented (R274). -/
  | nopZeroPageXF4 (zp : Byte)
  /-- 0xF5 SBC $nn,X (R182). -/
  | sbcZeroPageX (zp : Byte)
  /-- 0xF6 INC $nn,X (R186). -/
  | incZeroPageX (zp : Byte)
  /-- 0xF7 ISB $nn,X, undocumented (R269). -/
  | isbZeroPageX (zp : Byte)
  /-- 0xF8 SED (R250). -/
  | sed
  /-- 0xF9 SBC $hhll,Y (R182). -/
  | sbcAbsoluteY (w : Word)
  /-- 0xFA NOP, undocumented (R274). -/
  | nopImpliedFA
  /-- 0xFB ISB $hhll,Y, undocumented (R269). -/
  | isbAbsoluteY (w : Word)
  /-- 0xFC NOP $hhll,X, undocumented (R274). -/
  | nopAbsoluteXFC (w : Word)
  /-- 0xFD SBC $hhll,X (R182). -/
  | sbcAbsoluteX (w : Word)
  /-- 0xFE INC $hhll,X (R186). -/
  | incAbsoluteX (w : Word)
  /-- 0xFF ISB $hhll,X, undocumented (R269). -/
  | isbAbsoluteX (w : Word)
  /-- One of the 25 opcodes with no handler (R131), `op` its opcode byte. -/
  | unsupported (op : Byte)
  deriving DecidableEq, Repr

end Sys2Proof
end

