-- ==== Sys2Proof/Machine/Dispatch.lean ====
section
/-! DEFINITION. The dispatch: one arm per constructor of Instr, each one call of its meaning. -/

namespace Sys2Proof.Machine

/-- What an instruction does (30_encoding.md R112 step 6), `PC` still holding the address of its opcode. -/
def exec (i : Instr) (s : State) : Host.Outcome State Fault Refusal :=
  match i with
  | .brk => Sys2Proof.Machine.execBrk s
  | .oraIndexedIndirect zp => Sys2Proof.Machine.execOraIndexedIndirect zp s
  | .sloIndexedIndirect zp => Sys2Proof.Machine.execSloIndexedIndirect zp s
  | .nopZeroPage04 zp => Sys2Proof.Machine.execNopZeroPage04 zp s
  | .oraZeroPage zp => Sys2Proof.Machine.execOraZeroPage zp s
  | .aslZeroPage zp => Sys2Proof.Machine.execAslZeroPage zp s
  | .sloZeroPage zp => Sys2Proof.Machine.execSloZeroPage zp s
  | .php => Sys2Proof.Machine.execPhp s
  | .oraImmediate imm => Sys2Proof.Machine.execOraImmediate imm s
  | .aslAccumulator => Sys2Proof.Machine.execAslAccumulator s
  | .nopAbsolute0C w => Sys2Proof.Machine.execNopAbsolute0C w s
  | .oraAbsolute w => Sys2Proof.Machine.execOraAbsolute w s
  | .aslAbsolute w => Sys2Proof.Machine.execAslAbsolute w s
  | .sloAbsolute w => Sys2Proof.Machine.execSloAbsolute w s
  | .bpl off => Sys2Proof.Machine.execBpl off s
  | .oraIndirectIndexed zp => Sys2Proof.Machine.execOraIndirectIndexed zp s
  | .sloIndirectIndexed zp => Sys2Proof.Machine.execSloIndirectIndexed zp s
  | .nopZeroPageX14 zp => Sys2Proof.Machine.execNopZeroPageX14 zp s
  | .oraZeroPageX zp => Sys2Proof.Machine.execOraZeroPageX zp s
  | .aslZeroPageX zp => Sys2Proof.Machine.execAslZeroPageX zp s
  | .sloZeroPageX zp => Sys2Proof.Machine.execSloZeroPageX zp s
  | .clc => Sys2Proof.Machine.execClc s
  | .oraAbsoluteY w => Sys2Proof.Machine.execOraAbsoluteY w s
  | .nopImplied1A => Sys2Proof.Machine.execNopImplied1A s
  | .sloAbsoluteY w => Sys2Proof.Machine.execSloAbsoluteY w s
  | .nopAbsoluteX1C w => Sys2Proof.Machine.execNopAbsoluteX1C w s
  | .oraAbsoluteX w => Sys2Proof.Machine.execOraAbsoluteX w s
  | .aslAbsoluteX w => Sys2Proof.Machine.execAslAbsoluteX w s
  | .sloAbsoluteX w => Sys2Proof.Machine.execSloAbsoluteX w s
  | .jsrAbsolute w => Sys2Proof.Machine.execJsrAbsolute w s
  | .andIndexedIndirect zp => Sys2Proof.Machine.execAndIndexedIndirect zp s
  | .rlaIndexedIndirect zp => Sys2Proof.Machine.execRlaIndexedIndirect zp s
  | .bitZeroPage zp => Sys2Proof.Machine.execBitZeroPage zp s
  | .andZeroPage zp => Sys2Proof.Machine.execAndZeroPage zp s
  | .rolZeroPage zp => Sys2Proof.Machine.execRolZeroPage zp s
  | .rlaZeroPage zp => Sys2Proof.Machine.execRlaZeroPage zp s
  | .plp => Sys2Proof.Machine.execPlp s
  | .andImmediate imm => Sys2Proof.Machine.execAndImmediate imm s
  | .rolAccumulator => Sys2Proof.Machine.execRolAccumulator s
  | .bitAbsolute w => Sys2Proof.Machine.execBitAbsolute w s
  | .andAbsolute w => Sys2Proof.Machine.execAndAbsolute w s
  | .rolAbsolute w => Sys2Proof.Machine.execRolAbsolute w s
  | .rlaAbsolute w => Sys2Proof.Machine.execRlaAbsolute w s
  | .bmi off => Sys2Proof.Machine.execBmi off s
  | .andIndirectIndexed zp => Sys2Proof.Machine.execAndIndirectIndexed zp s
  | .rlaIndirectIndexed zp => Sys2Proof.Machine.execRlaIndirectIndexed zp s
  | .nopZeroPageX34 zp => Sys2Proof.Machine.execNopZeroPageX34 zp s
  | .andZeroPageX zp => Sys2Proof.Machine.execAndZeroPageX zp s
  | .rolZeroPageX zp => Sys2Proof.Machine.execRolZeroPageX zp s
  | .rlaZeroPageX zp => Sys2Proof.Machine.execRlaZeroPageX zp s
  | .sec => Sys2Proof.Machine.execSec s
  | .andAbsoluteY w => Sys2Proof.Machine.execAndAbsoluteY w s
  | .nopImplied3A => Sys2Proof.Machine.execNopImplied3A s
  | .rlaAbsoluteY w => Sys2Proof.Machine.execRlaAbsoluteY w s
  | .nopAbsoluteX3C w => Sys2Proof.Machine.execNopAbsoluteX3C w s
  | .andAbsoluteX w => Sys2Proof.Machine.execAndAbsoluteX w s
  | .rolAbsoluteX w => Sys2Proof.Machine.execRolAbsoluteX w s
  | .rlaAbsoluteX w => Sys2Proof.Machine.execRlaAbsoluteX w s
  | .rti => Sys2Proof.Machine.execRti s
  | .eorIndexedIndirect zp => Sys2Proof.Machine.execEorIndexedIndirect zp s
  | .sreIndexedIndirect zp => Sys2Proof.Machine.execSreIndexedIndirect zp s
  | .nopZeroPage44 zp => Sys2Proof.Machine.execNopZeroPage44 zp s
  | .eorZeroPage zp => Sys2Proof.Machine.execEorZeroPage zp s
  | .lsrZeroPage zp => Sys2Proof.Machine.execLsrZeroPage zp s
  | .sreZeroPage zp => Sys2Proof.Machine.execSreZeroPage zp s
  | .pha => Sys2Proof.Machine.execPha s
  | .eorImmediate imm => Sys2Proof.Machine.execEorImmediate imm s
  | .lsrAccumulator => Sys2Proof.Machine.execLsrAccumulator s
  | .jmpAbsolute w => Sys2Proof.Machine.execJmpAbsolute w s
  | .eorAbsolute w => Sys2Proof.Machine.execEorAbsolute w s
  | .lsrAbsolute w => Sys2Proof.Machine.execLsrAbsolute w s
  | .sreAbsolute w => Sys2Proof.Machine.execSreAbsolute w s
  | .bvc off => Sys2Proof.Machine.execBvc off s
  | .eorIndirectIndexed zp => Sys2Proof.Machine.execEorIndirectIndexed zp s
  | .sreIndirectIndexed zp => Sys2Proof.Machine.execSreIndirectIndexed zp s
  | .nopZeroPageX54 zp => Sys2Proof.Machine.execNopZeroPageX54 zp s
  | .eorZeroPageX zp => Sys2Proof.Machine.execEorZeroPageX zp s
  | .lsrZeroPageX zp => Sys2Proof.Machine.execLsrZeroPageX zp s
  | .sreZeroPageX zp => Sys2Proof.Machine.execSreZeroPageX zp s
  | .cli => Sys2Proof.Machine.execCli s
  | .eorAbsoluteY w => Sys2Proof.Machine.execEorAbsoluteY w s
  | .nopImplied5A => Sys2Proof.Machine.execNopImplied5A s
  | .sreAbsoluteY w => Sys2Proof.Machine.execSreAbsoluteY w s
  | .nopAbsoluteX5C w => Sys2Proof.Machine.execNopAbsoluteX5C w s
  | .eorAbsoluteX w => Sys2Proof.Machine.execEorAbsoluteX w s
  | .lsrAbsoluteX w => Sys2Proof.Machine.execLsrAbsoluteX w s
  | .sreAbsoluteX w => Sys2Proof.Machine.execSreAbsoluteX w s
  | .rts => Sys2Proof.Machine.execRts s
  | .adcIndexedIndirect zp => Sys2Proof.Machine.execAdcIndexedIndirect zp s
  | .rraIndexedIndirect zp => Sys2Proof.Machine.execRraIndexedIndirect zp s
  | .nopZeroPage64 zp => Sys2Proof.Machine.execNopZeroPage64 zp s
  | .adcZeroPage zp => Sys2Proof.Machine.execAdcZeroPage zp s
  | .rorZeroPage zp => Sys2Proof.Machine.execRorZeroPage zp s
  | .rraZeroPage zp => Sys2Proof.Machine.execRraZeroPage zp s
  | .pla => Sys2Proof.Machine.execPla s
  | .adcImmediate imm => Sys2Proof.Machine.execAdcImmediate imm s
  | .rorAccumulator => Sys2Proof.Machine.execRorAccumulator s
  | .jmpIndirect ptr => Sys2Proof.Machine.execJmpIndirect ptr s
  | .adcAbsolute w => Sys2Proof.Machine.execAdcAbsolute w s
  | .rorAbsolute w => Sys2Proof.Machine.execRorAbsolute w s
  | .rraAbsolute w => Sys2Proof.Machine.execRraAbsolute w s
  | .bvs off => Sys2Proof.Machine.execBvs off s
  | .adcIndirectIndexed zp => Sys2Proof.Machine.execAdcIndirectIndexed zp s
  | .rraIndirectIndexed zp => Sys2Proof.Machine.execRraIndirectIndexed zp s
  | .nopZeroPageX74 zp => Sys2Proof.Machine.execNopZeroPageX74 zp s
  | .adcZeroPageX zp => Sys2Proof.Machine.execAdcZeroPageX zp s
  | .rorZeroPageX zp => Sys2Proof.Machine.execRorZeroPageX zp s
  | .rraZeroPageX zp => Sys2Proof.Machine.execRraZeroPageX zp s
  | .sei => Sys2Proof.Machine.execSei s
  | .adcAbsoluteY w => Sys2Proof.Machine.execAdcAbsoluteY w s
  | .nopImplied7A => Sys2Proof.Machine.execNopImplied7A s
  | .rraAbsoluteY w => Sys2Proof.Machine.execRraAbsoluteY w s
  | .nopAbsoluteX7C w => Sys2Proof.Machine.execNopAbsoluteX7C w s
  | .adcAbsoluteX w => Sys2Proof.Machine.execAdcAbsoluteX w s
  | .rorAbsoluteX w => Sys2Proof.Machine.execRorAbsoluteX w s
  | .rraAbsoluteX w => Sys2Proof.Machine.execRraAbsoluteX w s
  | .nopImmediate80 imm => Sys2Proof.Machine.execNopImmediate80 imm s
  | .staIndexedIndirect zp => Sys2Proof.Machine.execStaIndexedIndirect zp s
  | .nopImmediate82 imm => Sys2Proof.Machine.execNopImmediate82 imm s
  | .saxIndexedIndirect zp => Sys2Proof.Machine.execSaxIndexedIndirect zp s
  | .styZeroPage zp => Sys2Proof.Machine.execStyZeroPage zp s
  | .staZeroPage zp => Sys2Proof.Machine.execStaZeroPage zp s
  | .stxZeroPage zp => Sys2Proof.Machine.execStxZeroPage zp s
  | .saxZeroPage zp => Sys2Proof.Machine.execSaxZeroPage zp s
  | .dey => Sys2Proof.Machine.execDey s
  | .nopImmediate89 imm => Sys2Proof.Machine.execNopImmediate89 imm s
  | .txa => Sys2Proof.Machine.execTxa s
  | .styAbsolute w => Sys2Proof.Machine.execStyAbsolute w s
  | .staAbsolute w => Sys2Proof.Machine.execStaAbsolute w s
  | .stxAbsolute w => Sys2Proof.Machine.execStxAbsolute w s
  | .saxAbsolute w => Sys2Proof.Machine.execSaxAbsolute w s
  | .bcc off => Sys2Proof.Machine.execBcc off s
  | .staIndirectIndexed zp => Sys2Proof.Machine.execStaIndirectIndexed zp s
  | .styZeroPageX zp => Sys2Proof.Machine.execStyZeroPageX zp s
  | .staZeroPageX zp => Sys2Proof.Machine.execStaZeroPageX zp s
  | .stxZeroPageY zp => Sys2Proof.Machine.execStxZeroPageY zp s
  | .saxZeroPageY zp => Sys2Proof.Machine.execSaxZeroPageY zp s
  | .tya => Sys2Proof.Machine.execTya s
  | .staAbsoluteY w => Sys2Proof.Machine.execStaAbsoluteY w s
  | .txs => Sys2Proof.Machine.execTxs s
  | .staAbsoluteX w => Sys2Proof.Machine.execStaAbsoluteX w s
  | .ldyImmediate imm => Sys2Proof.Machine.execLdyImmediate imm s
  | .ldaIndexedIndirect zp => Sys2Proof.Machine.execLdaIndexedIndirect zp s
  | .ldxImmediate imm => Sys2Proof.Machine.execLdxImmediate imm s
  | .laxIndexedIndirect zp => Sys2Proof.Machine.execLaxIndexedIndirect zp s
  | .ldyZeroPage zp => Sys2Proof.Machine.execLdyZeroPage zp s
  | .ldaZeroPage zp => Sys2Proof.Machine.execLdaZeroPage zp s
  | .ldxZeroPage zp => Sys2Proof.Machine.execLdxZeroPage zp s
  | .laxZeroPage zp => Sys2Proof.Machine.execLaxZeroPage zp s
  | .tay => Sys2Proof.Machine.execTay s
  | .ldaImmediate imm => Sys2Proof.Machine.execLdaImmediate imm s
  | .tax => Sys2Proof.Machine.execTax s
  | .ldyAbsolute w => Sys2Proof.Machine.execLdyAbsolute w s
  | .ldaAbsolute w => Sys2Proof.Machine.execLdaAbsolute w s
  | .ldxAbsolute w => Sys2Proof.Machine.execLdxAbsolute w s
  | .laxAbsolute w => Sys2Proof.Machine.execLaxAbsolute w s
  | .bcs off => Sys2Proof.Machine.execBcs off s
  | .ldaIndirectIndexed zp => Sys2Proof.Machine.execLdaIndirectIndexed zp s
  | .laxIndirectIndexed zp => Sys2Proof.Machine.execLaxIndirectIndexed zp s
  | .ldyZeroPageX zp => Sys2Proof.Machine.execLdyZeroPageX zp s
  | .ldaZeroPageX zp => Sys2Proof.Machine.execLdaZeroPageX zp s
  | .ldxZeroPageY zp => Sys2Proof.Machine.execLdxZeroPageY zp s
  | .laxZeroPageY zp => Sys2Proof.Machine.execLaxZeroPageY zp s
  | .clv => Sys2Proof.Machine.execClv s
  | .ldaAbsoluteY w => Sys2Proof.Machine.execLdaAbsoluteY w s
  | .tsx => Sys2Proof.Machine.execTsx s
  | .ldyAbsoluteX w => Sys2Proof.Machine.execLdyAbsoluteX w s
  | .ldaAbsoluteX w => Sys2Proof.Machine.execLdaAbsoluteX w s
  | .ldxAbsoluteY w => Sys2Proof.Machine.execLdxAbsoluteY w s
  | .laxAbsoluteY w => Sys2Proof.Machine.execLaxAbsoluteY w s
  | .cpyImmediate imm => Sys2Proof.Machine.execCpyImmediate imm s
  | .cmpIndexedIndirect zp => Sys2Proof.Machine.execCmpIndexedIndirect zp s
  | .nopImmediateC2 imm => Sys2Proof.Machine.execNopImmediateC2 imm s
  | .dcpIndexedIndirect zp => Sys2Proof.Machine.execDcpIndexedIndirect zp s
  | .cpyZeroPage zp => Sys2Proof.Machine.execCpyZeroPage zp s
  | .cmpZeroPage zp => Sys2Proof.Machine.execCmpZeroPage zp s
  | .decZeroPage zp => Sys2Proof.Machine.execDecZeroPage zp s
  | .dcpZeroPage zp => Sys2Proof.Machine.execDcpZeroPage zp s
  | .iny => Sys2Proof.Machine.execIny s
  | .cmpImmediate imm => Sys2Proof.Machine.execCmpImmediate imm s
  | .dex => Sys2Proof.Machine.execDex s
  | .cpyAbsolute w => Sys2Proof.Machine.execCpyAbsolute w s
  | .cmpAbsolute w => Sys2Proof.Machine.execCmpAbsolute w s
  | .decAbsolute w => Sys2Proof.Machine.execDecAbsolute w s
  | .dcpAbsolute w => Sys2Proof.Machine.execDcpAbsolute w s
  | .bne off => Sys2Proof.Machine.execBne off s
  | .cmpIndirectIndexed zp => Sys2Proof.Machine.execCmpIndirectIndexed zp s
  | .dcpIndirectIndexed zp => Sys2Proof.Machine.execDcpIndirectIndexed zp s
  | .nopZeroPageXD4 zp => Sys2Proof.Machine.execNopZeroPageXD4 zp s
  | .cmpZeroPageX zp => Sys2Proof.Machine.execCmpZeroPageX zp s
  | .decZeroPageX zp => Sys2Proof.Machine.execDecZeroPageX zp s
  | .dcpZeroPageX zp => Sys2Proof.Machine.execDcpZeroPageX zp s
  | .cld => Sys2Proof.Machine.execCld s
  | .cmpAbsoluteY w => Sys2Proof.Machine.execCmpAbsoluteY w s
  | .nopImpliedDA => Sys2Proof.Machine.execNopImpliedDA s
  | .dcpAbsoluteY w => Sys2Proof.Machine.execDcpAbsoluteY w s
  | .nopAbsoluteXDC w => Sys2Proof.Machine.execNopAbsoluteXDC w s
  | .cmpAbsoluteX w => Sys2Proof.Machine.execCmpAbsoluteX w s
  | .decAbsoluteX w => Sys2Proof.Machine.execDecAbsoluteX w s
  | .dcpAbsoluteX w => Sys2Proof.Machine.execDcpAbsoluteX w s
  | .cpxImmediate imm => Sys2Proof.Machine.execCpxImmediate imm s
  | .sbcIndexedIndirect zp => Sys2Proof.Machine.execSbcIndexedIndirect zp s
  | .nopImmediateE2 imm => Sys2Proof.Machine.execNopImmediateE2 imm s
  | .isbIndexedIndirect zp => Sys2Proof.Machine.execIsbIndexedIndirect zp s
  | .cpxZeroPage zp => Sys2Proof.Machine.execCpxZeroPage zp s
  | .sbcZeroPage zp => Sys2Proof.Machine.execSbcZeroPage zp s
  | .incZeroPage zp => Sys2Proof.Machine.execIncZeroPage zp s
  | .isbZeroPage zp => Sys2Proof.Machine.execIsbZeroPage zp s
  | .inx => Sys2Proof.Machine.execInx s
  | .sbcImmediate imm => Sys2Proof.Machine.execSbcImmediate imm s
  | .nop => Sys2Proof.Machine.execNop s
  | .sbcImmediateEB imm => Sys2Proof.Machine.execSbcImmediateEB imm s
  | .cpxAbsolute w => Sys2Proof.Machine.execCpxAbsolute w s
  | .sbcAbsolute w => Sys2Proof.Machine.execSbcAbsolute w s
  | .incAbsolute w => Sys2Proof.Machine.execIncAbsolute w s
  | .isbAbsolute w => Sys2Proof.Machine.execIsbAbsolute w s
  | .beq off => Sys2Proof.Machine.execBeq off s
  | .sbcIndirectIndexed zp => Sys2Proof.Machine.execSbcIndirectIndexed zp s
  | .isbIndirectIndexed zp => Sys2Proof.Machine.execIsbIndirectIndexed zp s
  | .nopZeroPageXF4 zp => Sys2Proof.Machine.execNopZeroPageXF4 zp s
  | .sbcZeroPageX zp => Sys2Proof.Machine.execSbcZeroPageX zp s
  | .incZeroPageX zp => Sys2Proof.Machine.execIncZeroPageX zp s
  | .isbZeroPageX zp => Sys2Proof.Machine.execIsbZeroPageX zp s
  | .sed => Sys2Proof.Machine.execSed s
  | .sbcAbsoluteY w => Sys2Proof.Machine.execSbcAbsoluteY w s
  | .nopImpliedFA => Sys2Proof.Machine.execNopImpliedFA s
  | .isbAbsoluteY w => Sys2Proof.Machine.execIsbAbsoluteY w s
  | .nopAbsoluteXFC w => Sys2Proof.Machine.execNopAbsoluteXFC w s
  | .sbcAbsoluteX w => Sys2Proof.Machine.execSbcAbsoluteX w s
  | .incAbsoluteX w => Sys2Proof.Machine.execIncAbsoluteX w s
  | .isbAbsoluteX w => Sys2Proof.Machine.execIsbAbsoluteX w s
  | .unsupported op => Sys2Proof.Machine.execUnsupported op s

end Sys2Proof.Machine
end

