-- ==== Sys2Proof/Machine/Environment.lean ====
section
/-! DEFINITION. The environment's side of the stepping loop (70_reset_and_hazards.md R386, R387): the events it may deliver
between two CPU steps. -/

namespace Sys2Proof.Machine

/-- The effect of an event (R306, R308, R380, R90, R87, R76). -/
def applyEvent (e : Event) (s : State) : State :=
  match e with
  | .nmiRequest => { s with nmiPending := true }
  | .extIrq level => { s with extIrq := level }
  | .reset => resetProcedure s
  | .scanline => s
  | .chrRead a => s.deliver (.chrAnswer a (s.cart.chrRead a))
  | .chrWrite a v => { s with cart := s.cart.chrWrite a v }
  | .nametable i => s.deliver (.nametableAnswer i (nametableSlot s.cart.mirror i))

/-- An event delivered: while the machine is halted only Reset is enabled, any other is lost (R384, R300). -/
def deliverEvent (s : State) (e : Event) : State :=
  if s.halted.isSome && e != .reset then s else applyEvent e s

/-- The events of this step boundary, in order, taken off the schedule (R386). -/
def deliverBoundary (s : State) : State :=
  match s.boundaries with
  | [] => s
  | events :: later => events.foldl deliverEvent { s with boundaries := later }

end Sys2Proof.Machine
end

