-- ==== Sys2Proof/WellFormed.lean ====
section
/-! DEFINITION. Which terms of `Instr` are instructions of the table. Operand fields need no check, their types have exactly the
operands' widths; the one thing a term can get wrong is the opcode byte of `unsupported` (30_encoding.md R131). -/

namespace Sys2Proof

/-- The 25 opcode values with no handler (R131). -/
def unsupportedOpcodes : List Byte :=
  [0x02, 0x12, 0x22, 0x32, 0x42, 0x52, 0x62, 0x72, 0x92, 0xB2, 0xD2, 0xF2] ++
    [0x0B, 0x2B, 0x4B, 0x6B, 0xCB, 0x8B, 0xAB, 0x93, 0x9F, 0x9C, 0x9E, 0x9B, 0xBB]

/-- The term is an instruction of the table: an `unsupported` carries one of the 25 opcodes of R131. -/
def Instr.wellFormed (i : Instr) : Bool :=
  match i with
  | .unsupported op => unsupportedOpcodes.contains op
  | _ => true

end Sys2Proof
end

