-- ==== Sys2Proof/Decode.lean ====
section
/-! DEFINITION. Decoding (30_encoding.md R110, R128): a table look-up by the opcode byte, total over all 256 values, row and
column being the opcode's high and low nibble as in R128; the encoder, written from the same lists of R129 to R131; and the
host's view of the decoder. -/

namespace Sys2Proof

/-- The length of an instruction of a mode, in bytes (R110). -/
def Mode.length : Mode → Nat
  | .implied | .accumulator => 1
  | .immediate | .zeroPage | .zeroPageX | .zeroPageY | .indexedIndirect | .indirectIndexed | .relative => 2
  | .absolute | .absoluteX | .absoluteY | .indirect => 3

/-- The addressing mode of an instruction; the unsupported opcodes have none (R128). -/
def Instr.mode : Instr → Option Mode
  | .brk => some .implied
  | .oraIndexedIndirect _ => some .indexedIndirect
  | .sloIndexedIndirect _ => some .indexedIndirect
  | .nopZeroPage04 _ => some .zeroPage
  | .oraZeroPage _ => some .zeroPage
  | .aslZeroPage _ => some .zeroPage
  | .sloZeroPage _ => some .zeroPage
  | .php => some .implied
  | .oraImmediate _ => some .immediate
  | .aslAccumulator => some .accumulator
  | .nopAbsolute0C _ => some .absolute
  | .oraAbsolute _ => some .absolute
  | .aslAbsolute _ => some .absolute
  | .sloAbsolute _ => some .absolute
  | .bpl _ => some .relative
  | .oraIndirectIndexed _ => some .indirectIndexed
  | .sloIndirectIndexed _ => some .indirectIndexed
  | .nopZeroPageX14 _ => some .zeroPageX
  | .oraZeroPageX _ => some .zeroPageX
  | .aslZeroPageX _ => some .zeroPageX
  | .sloZeroPageX _ => some .zeroPageX
  | .clc => some .implied
  | .oraAbsoluteY _ => some .absoluteY
  | .nopImplied1A => some .implied
  | .sloAbsoluteY _ => some .absoluteY
  | .nopAbsoluteX1C _ => some .absoluteX
  | .oraAbsoluteX _ => some .absoluteX
  | .aslAbsoluteX _ => some .absoluteX
  | .sloAbsoluteX _ => some .absoluteX
  | .jsrAbsolute _ => some .absolute
  | .andIndexedIndirect _ => some .indexedIndirect
  | .rlaIndexedIndirect _ => some .indexedIndirect
  | .bitZeroPage _ => some .zeroPage
  | .andZeroPage _ => some .zeroPage
  | .rolZeroPage _ => some .zeroPage
  | .rlaZeroPage _ => some .zeroPage
  | .plp => some .implied
  | .andImmediate _ => some .immediate
  | .rolAccumulator => some .accumulator
  | .bitAbsolute _ => some .absolute
  | .andAbsolute _ => some .absolute
  | .rolAbsolute _ => some .absolute
  | .rlaAbsolute _ => some .absolute
  | .bmi _ => some .relative
  | .andIndirectIndexed _ => some .indirectIndexed
  | .rlaIndirectIndexed _ => some .indirectIndexed
  | .nopZeroPageX34 _ => some .zeroPageX
  | .andZeroPageX _ => some .zeroPageX
  | .rolZeroPageX _ => some .zeroPageX
  | .rlaZeroPageX _ => some .zeroPageX
  | .sec => some .implied
  | .andAbsoluteY _ => some .absoluteY
  | .nopImplied3A => some .implied
  | .rlaAbsoluteY _ => some .absoluteY
  | .nopAbsoluteX3C _ => some .absoluteX
  | .andAbsoluteX _ => some .absoluteX
  | .rolAbsoluteX _ => some .absoluteX
  | .rlaAbsoluteX _ => some .absoluteX
  | .rti => some .implied
  | .eorIndexedIndirect _ => some .indexedIndirect
  | .sreIndexedIndirect _ => some .indexedIndirect
  | .nopZeroPage44 _ => some .zeroPage
  | .eorZeroPage _ => some .zeroPage
  | .lsrZeroPage _ => some .zeroPage
  | .sreZeroPage _ => some .zeroPage
  | .pha => some .implied
  | .eorImmediate _ => some .immediate
  | .lsrAccumulator => some .accumulator
  | .jmpAbsolute _ => some .absolute
  | .eorAbsolute _ => some .absolute
  | .lsrAbsolute _ => some .absolute
  | .sreAbsolute _ => some .absolute
  | .bvc _ => some .relative
  | .eorIndirectIndexed _ => some .indirectIndexed
  | .sreIndirectIndexed _ => some .indirectIndexed
  | .nopZeroPageX54 _ => some .zeroPageX
  | .eorZeroPageX _ => some .zeroPageX
  | .lsrZeroPageX _ => some .zeroPageX
  | .sreZeroPageX _ => some .zeroPageX
  | .cli => some .implied
  | .eorAbsoluteY _ => some .absoluteY
  | .nopImplied5A => some .implied
  | .sreAbsoluteY _ => some .absoluteY
  | .nopAbsoluteX5C _ => some .absoluteX
  | .eorAbsoluteX _ => some .absoluteX
  | .lsrAbsoluteX _ => some .absoluteX
  | .sreAbsoluteX _ => some .absoluteX
  | .rts => some .implied
  | .adcIndexedIndirect _ => some .indexedIndirect
  | .rraIndexedIndirect _ => some .indexedIndirect
  | .nopZeroPage64 _ => some .zeroPage
  | .adcZeroPage _ => some .zeroPage
  | .rorZeroPage _ => some .zeroPage
  | .rraZeroPage _ => some .zeroPage
  | .pla => some .implied
  | .adcImmediate _ => some .immediate
  | .rorAccumulator => some .accumulator
  | .jmpIndirect _ => some .indirect
  | .adcAbsolute _ => some .absolute
  | .rorAbsolute _ => some .absolute
  | .rraAbsolute _ => some .absolute
  | .bvs _ => some .relative
  | .adcIndirectIndexed _ => some .indirectIndexed
  | .rraIndirectIndexed _ => some .indirectIndexed
  | .nopZeroPageX74 _ => some .zeroPageX
  | .adcZeroPageX _ => some .zeroPageX
  | .rorZeroPageX _ => some .zeroPageX
  | .rraZeroPageX _ => some .zeroPageX
  | .sei => some .implied
  | .adcAbsoluteY _ => some .absoluteY
  | .nopImplied7A => some .implied
  | .rraAbsoluteY _ => some .absoluteY
  | .nopAbsoluteX7C _ => some .absoluteX
  | .adcAbsoluteX _ => some .absoluteX
  | .rorAbsoluteX _ => some .absoluteX
  | .rraAbsoluteX _ => some .absoluteX
  | .nopImmediate80 _ => some .immediate
  | .staIndexedIndirect _ => some .indexedIndirect
  | .nopImmediate82 _ => some .immediate
  | .saxIndexedIndirect _ => some .indexedIndirect
  | .styZeroPage _ => some .zeroPage
  | .staZeroPage _ => some .zeroPage
  | .stxZeroPage _ => some .zeroPage
  | .saxZeroPage _ => some .zeroPage
  | .dey => some .implied
  | .nopImmediate89 _ => some .immediate
  | .txa => some .implied
  | .styAbsolute _ => some .absolute
  | .staAbsolute _ => some .absolute
  | .stxAbsolute _ => some .absolute
  | .saxAbsolute _ => some .absolute
  | .bcc _ => some .relative
  | .staIndirectIndexed _ => some .indirectIndexed
  | .styZeroPageX _ => some .zeroPageX
  | .staZeroPageX _ => some .zeroPageX
  | .stxZeroPageY _ => some .zeroPageY
  | .saxZeroPageY _ => some .zeroPageY
  | .tya => some .implied
  | .staAbsoluteY _ => some .absoluteY
  | .txs => some .implied
  | .staAbsoluteX _ => some .absoluteX
  | .ldyImmediate _ => some .immediate
  | .ldaIndexedIndirect _ => some .indexedIndirect
  | .ldxImmediate _ => some .immediate
  | .laxIndexedIndirect _ => some .indexedIndirect
  | .ldyZeroPage _ => some .zeroPage
  | .ldaZeroPage _ => some .zeroPage
  | .ldxZeroPage _ => some .zeroPage
  | .laxZeroPage _ => some .zeroPage
  | .tay => some .implied
  | .ldaImmediate _ => some .immediate
  | .tax => some .implied
  | .ldyAbsolute _ => some .absolute
  | .ldaAbsolute _ => some .absolute
  | .ldxAbsolute _ => some .absolute
  | .laxAbsolute _ => some .absolute
  | .bcs _ => some .relative
  | .ldaIndirectIndexed _ => some .indirectIndexed
  | .laxIndirectIndexed _ => some .indirectIndexed
  | .ldyZeroPageX _ => some .zeroPageX
  | .ldaZeroPageX _ => some .zeroPageX
  | .ldxZeroPageY _ => some .zeroPageY
  | .laxZeroPageY _ => some .zeroPageY
  | .clv => some .implied
  | .ldaAbsoluteY _ => some .absoluteY
  | .tsx => some .implied
  | .ldyAbsoluteX _ => some .absoluteX
  | .ldaAbsoluteX _ => some .absoluteX
  | .ldxAbsoluteY _ => some .absoluteY
  | .laxAbsoluteY _ => some .absoluteY
  | .cpyImmediate _ => some .immediate
  | .cmpIndexedIndirect _ => some .indexedIndirect
  | .nopImmediateC2 _ => some .immediate
  | .dcpIndexedIndirect _ => some .indexedIndirect
  | .cpyZeroPage _ => some .zeroPage
  | .cmpZeroPage _ => some .zeroPage
  | .decZeroPage _ => some .zeroPage
  | .dcpZeroPage _ => some .zeroPage
  | .iny => some .implied
  | .cmpImmediate _ => some .immediate
  | .dex => some .implied
  | .cpyAbsolute _ => some .absolute
  | .cmpAbsolute _ => some .absolute
  | .decAbsolute _ => some .absolute
  | .dcpAbsolute _ => some .absolute
  | .bne _ => some .relative
  | .cmpIndirectIndexed _ => some .indirectIndexed
  | .dcpIndirectIndexed _ => some .indirectIndexed
  | .nopZeroPageXD4 _ => some .zeroPageX
  | .cmpZeroPageX _ => some .zeroPageX
  | .decZeroPageX _ => some .zeroPageX
  | .dcpZeroPageX _ => some .zeroPageX
  | .cld => some .implied
  | .cmpAbsoluteY _ => some .absoluteY
  | .nopImpliedDA => some .implied
  | .dcpAbsoluteY _ => some .absoluteY
  | .nopAbsoluteXDC _ => some .absoluteX
  | .cmpAbsoluteX _ => some .absoluteX
  | .decAbsoluteX _ => some .absoluteX
  | .dcpAbsoluteX _ => some .absoluteX
  | .cpxImmediate _ => some .immediate
  | .sbcIndexedIndirect _ => some .indexedIndirect
  | .nopImmediateE2 _ => some .immediate
  | .isbIndexedIndirect _ => some .indexedIndirect
  | .cpxZeroPage _ => some .zeroPage
  | .sbcZeroPage _ => some .zeroPage
  | .incZeroPage _ => some .zeroPage
  | .isbZeroPage _ => some .zeroPage
  | .inx => some .implied
  | .sbcImmediate _ => some .immediate
  | .nop => some .implied
  | .sbcImmediateEB _ => some .immediate
  | .cpxAbsolute _ => some .absolute
  | .sbcAbsolute _ => some .absolute
  | .incAbsolute _ => some .absolute
  | .isbAbsolute _ => some .absolute
  | .beq _ => some .relative
  | .sbcIndirectIndexed _ => some .indirectIndexed
  | .isbIndirectIndexed _ => some .indirectIndexed
  | .nopZeroPageXF4 _ => some .zeroPageX
  | .sbcZeroPageX _ => some .zeroPageX
  | .incZeroPageX _ => some .zeroPageX
  | .isbZeroPageX _ => some .zeroPageX
  | .sed => some .implied
  | .sbcAbsoluteY _ => some .absoluteY
  | .nopImpliedFA => some .implied
  | .isbAbsoluteY _ => some .absoluteY
  | .nopAbsoluteXFC _ => some .absoluteX
  | .sbcAbsoluteX _ => some .absoluteX
  | .incAbsoluteX _ => some .absoluteX
  | .isbAbsoluteX _ => some .absoluteX
  | .unsupported _ => none

/-- The class of an instruction's opcode (R128). -/
def Instr.status : Instr → Status
  | .brk => .documented
  | .oraIndexedIndirect _ => .documented
  | .sloIndexedIndirect _ => .undocumented
  | .nopZeroPage04 _ => .undocumented
  | .oraZeroPage _ => .documented
  | .aslZeroPage _ => .documented
  | .sloZeroPage _ => .undocumented
  | .php => .documented
  | .oraImmediate _ => .documented
  | .aslAccumulator => .documented
  | .nopAbsolute0C _ => .undocumented
  | .oraAbsolute _ => .documented
  | .aslAbsolute _ => .documented
  | .sloAbsolute _ => .undocumented
  | .bpl _ => .documented
  | .oraIndirectIndexed _ => .documented
  | .sloIndirectIndexed _ => .undocumented
  | .nopZeroPageX14 _ => .undocumented
  | .oraZeroPageX _ => .documented
  | .aslZeroPageX _ => .documented
  | .sloZeroPageX _ => .undocumented
  | .clc => .documented
  | .oraAbsoluteY _ => .documented
  | .nopImplied1A => .undocumented
  | .sloAbsoluteY _ => .undocumented
  | .nopAbsoluteX1C _ => .undocumented
  | .oraAbsoluteX _ => .documented
  | .aslAbsoluteX _ => .documented
  | .sloAbsoluteX _ => .undocumented
  | .jsrAbsolute _ => .documented
  | .andIndexedIndirect _ => .documented
  | .rlaIndexedIndirect _ => .undocumented
  | .bitZeroPage _ => .documented
  | .andZeroPage _ => .documented
  | .rolZeroPage _ => .documented
  | .rlaZeroPage _ => .undocumented
  | .plp => .documented
  | .andImmediate _ => .documented
  | .rolAccumulator => .documented
  | .bitAbsolute _ => .documented
  | .andAbsolute _ => .documented
  | .rolAbsolute _ => .documented
  | .rlaAbsolute _ => .undocumented
  | .bmi _ => .documented
  | .andIndirectIndexed _ => .documented
  | .rlaIndirectIndexed _ => .undocumented
  | .nopZeroPageX34 _ => .undocumented
  | .andZeroPageX _ => .documented
  | .rolZeroPageX _ => .documented
  | .rlaZeroPageX _ => .undocumented
  | .sec => .documented
  | .andAbsoluteY _ => .documented
  | .nopImplied3A => .undocumented
  | .rlaAbsoluteY _ => .undocumented
  | .nopAbsoluteX3C _ => .undocumented
  | .andAbsoluteX _ => .documented
  | .rolAbsoluteX _ => .documented
  | .rlaAbsoluteX _ => .undocumented
  | .rti => .documented
  | .eorIndexedIndirect _ => .documented
  | .sreIndexedIndirect _ => .undocumented
  | .nopZeroPage44 _ => .undocumented
  | .eorZeroPage _ => .documented
  | .lsrZeroPage _ => .documented
  | .sreZeroPage _ => .undocumented
  | .pha => .documented
  | .eorImmediate _ => .documented
  | .lsrAccumulator => .documented
  | .jmpAbsolute _ => .documented
  | .eorAbsolute _ => .documented
  | .lsrAbsolute _ => .documented
  | .sreAbsolute _ => .undocumented
  | .bvc _ => .documented
  | .eorIndirectIndexed _ => .documented
  | .sreIndirectIndexed _ => .undocumented
  | .nopZeroPageX54 _ => .undocumented
  | .eorZeroPageX _ => .documented
  | .lsrZeroPageX _ => .documented
  | .sreZeroPageX _ => .undocumented
  | .cli => .documented
  | .eorAbsoluteY _ => .documented
  | .nopImplied5A => .undocumented
  | .sreAbsoluteY _ => .undocumented
  | .nopAbsoluteX5C _ => .undocumented
  | .eorAbsoluteX _ => .documented
  | .lsrAbsoluteX _ => .documented
  | .sreAbsoluteX _ => .undocumented
  | .rts => .documented
  | .adcIndexedIndirect _ => .documented
  | .rraIndexedIndirect _ => .undocumented
  | .nopZeroPage64 _ => .undocumented
  | .adcZeroPage _ => .documented
  | .rorZeroPage _ => .documented
  | .rraZeroPage _ => .undocumented
  | .pla => .documented
  | .adcImmediate _ => .documented
  | .rorAccumulator => .documented
  | .jmpIndirect _ => .documented
  | .adcAbsolute _ => .documented
  | .rorAbsolute _ => .documented
  | .rraAbsolute _ => .undocumented
  | .bvs _ => .documented
  | .adcIndirectIndexed _ => .documented
  | .rraIndirectIndexed _ => .undocumented
  | .nopZeroPageX74 _ => .undocumented
  | .adcZeroPageX _ => .documented
  | .rorZeroPageX _ => .documented
  | .rraZeroPageX _ => .undocumented
  | .sei => .documented
  | .adcAbsoluteY _ => .documented
  | .nopImplied7A => .undocumented
  | .rraAbsoluteY _ => .undocumented
  | .nopAbsoluteX7C _ => .undocumented
  | .adcAbsoluteX _ => .documented
  | .rorAbsoluteX _ => .documented
  | .rraAbsoluteX _ => .undocumented
  | .nopImmediate80 _ => .undocumented
  | .staIndexedIndirect _ => .documented
  | .nopImmediate82 _ => .undocumented
  | .saxIndexedIndirect _ => .undocumented
  | .styZeroPage _ => .documented
  | .staZeroPage _ => .documented
  | .stxZeroPage _ => .documented
  | .saxZeroPage _ => .undocumented
  | .dey => .documented
  | .nopImmediate89 _ => .undocumented
  | .txa => .documented
  | .styAbsolute _ => .documented
  | .staAbsolute _ => .documented
  | .stxAbsolute _ => .documented
  | .saxAbsolute _ => .undocumented
  | .bcc _ => .documented
  | .staIndirectIndexed _ => .documented
  | .styZeroPageX _ => .documented
  | .staZeroPageX _ => .documented
  | .stxZeroPageY _ => .documented
  | .saxZeroPageY _ => .undocumented
  | .tya => .documented
  | .staAbsoluteY _ => .documented
  | .txs => .documented
  | .staAbsoluteX _ => .documented
  | .ldyImmediate _ => .documented
  | .ldaIndexedIndirect _ => .documented
  | .ldxImmediate _ => .documented
  | .laxIndexedIndirect _ => .undocumented
  | .ldyZeroPage _ => .documented
  | .ldaZeroPage _ => .documented
  | .ldxZeroPage _ => .documented
  | .laxZeroPage _ => .undocumented
  | .tay => .documented
  | .ldaImmediate _ => .documented
  | .tax => .documented
  | .ldyAbsolute _ => .documented
  | .ldaAbsolute _ => .documented
  | .ldxAbsolute _ => .documented
  | .laxAbsolute _ => .undocumented
  | .bcs _ => .documented
  | .ldaIndirectIndexed _ => .documented
  | .laxIndirectIndexed _ => .undocumented
  | .ldyZeroPageX _ => .documented
  | .ldaZeroPageX _ => .documented
  | .ldxZeroPageY _ => .documented
  | .laxZeroPageY _ => .undocumented
  | .clv => .documented
  | .ldaAbsoluteY _ => .documented
  | .tsx => .documented
  | .ldyAbsoluteX _ => .documented
  | .ldaAbsoluteX _ => .documented
  | .ldxAbsoluteY _ => .documented
  | .laxAbsoluteY _ => .undocumented
  | .cpyImmediate _ => .documented
  | .cmpIndexedIndirect _ => .documented
  | .nopImmediateC2 _ => .undocumented
  | .dcpIndexedIndirect _ => .undocumented
  | .cpyZeroPage _ => .documented
  | .cmpZeroPage _ => .documented
  | .decZeroPage _ => .documented
  | .dcpZeroPage _ => .undocumented
  | .iny => .documented
  | .cmpImmediate _ => .documented
  | .dex => .documented
  | .cpyAbsolute _ => .documented
  | .cmpAbsolute _ => .documented
  | .decAbsolute _ => .documented
  | .dcpAbsolute _ => .undocumented
  | .bne _ => .documented
  | .cmpIndirectIndexed _ => .documented
  | .dcpIndirectIndexed _ => .undocumented
  | .nopZeroPageXD4 _ => .undocumented
  | .cmpZeroPageX _ => .documented
  | .decZeroPageX _ => .documented
  | .dcpZeroPageX _ => .undocumented
  | .cld => .documented
  | .cmpAbsoluteY _ => .documented
  | .nopImpliedDA => .undocumented
  | .dcpAbsoluteY _ => .undocumented
  | .nopAbsoluteXDC _ => .undocumented
  | .cmpAbsoluteX _ => .documented
  | .decAbsoluteX _ => .documented
  | .dcpAbsoluteX _ => .undocumented
  | .cpxImmediate _ => .documented
  | .sbcIndexedIndirect _ => .documented
  | .nopImmediateE2 _ => .undocumented
  | .isbIndexedIndirect _ => .undocumented
  | .cpxZeroPage _ => .documented
  | .sbcZeroPage _ => .documented
  | .incZeroPage _ => .documented
  | .isbZeroPage _ => .undocumented
  | .inx => .documented
  | .sbcImmediate _ => .documented
  | .nop => .documented
  | .sbcImmediateEB _ => .undocumented
  | .cpxAbsolute _ => .documented
  | .sbcAbsolute _ => .documented
  | .incAbsolute _ => .documented
  | .isbAbsolute _ => .undocumented
  | .beq _ => .documented
  | .sbcIndirectIndexed _ => .documented
  | .isbIndirectIndexed _ => .undocumented
  | .nopZeroPageXF4 _ => .undocumented
  | .sbcZeroPageX _ => .documented
  | .incZeroPageX _ => .documented
  | .isbZeroPageX _ => .undocumented
  | .sed => .documented
  | .sbcAbsoluteY _ => .documented
  | .nopImpliedFA => .undocumented
  | .isbAbsoluteY _ => .undocumented
  | .nopAbsoluteXFC _ => .undocumented
  | .sbcAbsoluteX _ => .documented
  | .incAbsoluteX _ => .documented
  | .isbAbsoluteX _ => .undocumented
  | .unsupported _ => .unsupported

/-- The length in bytes of an instruction: its mode's, and 1 for an unsupported opcode, of which only the opcode byte
is read (R110, R131). -/
def Instr.length (i : Instr) : Nat :=
  match i.mode with
  | some m => m.length
  | none => 1

/-- A 16-bit operand from its two bytes, the low byte first in memory (R50, R119). -/
def operandWord (l h : Byte) : Word := h ++ l

/-- Row 0x0x of the opcode map (R128); `l` and `h` are the second and third byte. -/
def opcodeRow0 (l h : Byte) : List Instr :=
  [ .brk, .oraIndexedIndirect l, .unsupported 0x02, .sloIndexedIndirect l,
    .nopZeroPage04 l, .oraZeroPage l, .aslZeroPage l, .sloZeroPage l,
    .php, .oraImmediate l, .aslAccumulator, .unsupported 0x0B,
    .nopAbsolute0C (operandWord l h), .oraAbsolute (operandWord l h), .aslAbsolute (operandWord l h), .sloAbsolute (operandWord l h) ]

/-- Row 0x1x of the opcode map (R128); `l` and `h` are the second and third byte. -/
def opcodeRow1 (l h : Byte) : List Instr :=
  [ .bpl l, .oraIndirectIndexed l, .unsupported 0x12, .sloIndirectIndexed l,
    .nopZeroPageX14 l, .oraZeroPageX l, .aslZeroPageX l, .sloZeroPageX l,
    .clc, .oraAbsoluteY (operandWord l h), .nopImplied1A, .sloAbsoluteY (operandWord l h),
    .nopAbsoluteX1C (operandWord l h), .oraAbsoluteX (operandWord l h), .aslAbsoluteX (operandWord l h), .sloAbsoluteX (operandWord l h) ]

/-- Row 0x2x of the opcode map (R128); `l` and `h` are the second and third byte. -/
def opcodeRow2 (l h : Byte) : List Instr :=
  [ .jsrAbsolute (operandWord l h), .andIndexedIndirect l, .unsupported 0x22, .rlaIndexedIndirect l,
    .bitZeroPage l, .andZeroPage l, .rolZeroPage l, .rlaZeroPage l,
    .plp, .andImmediate l, .rolAccumulator, .unsupported 0x2B,
    .bitAbsolute (operandWord l h), .andAbsolute (operandWord l h), .rolAbsolute (operandWord l h), .rlaAbsolute (operandWord l h) ]

/-- Row 0x3x of the opcode map (R128); `l` and `h` are the second and third byte. -/
def opcodeRow3 (l h : Byte) : List Instr :=
  [ .bmi l, .andIndirectIndexed l, .unsupported 0x32, .rlaIndirectIndexed l,
    .nopZeroPageX34 l, .andZeroPageX l, .rolZeroPageX l, .rlaZeroPageX l,
    .sec, .andAbsoluteY (operandWord l h), .nopImplied3A, .rlaAbsoluteY (operandWord l h),
    .nopAbsoluteX3C (operandWord l h), .andAbsoluteX (operandWord l h), .rolAbsoluteX (operandWord l h), .rlaAbsoluteX (operandWord l h) ]

/-- Row 0x4x of the opcode map (R128); `l` and `h` are the second and third byte. -/
def opcodeRow4 (l h : Byte) : List Instr :=
  [ .rti, .eorIndexedIndirect l, .unsupported 0x42, .sreIndexedIndirect l,
    .nopZeroPage44 l, .eorZeroPage l, .lsrZeroPage l, .sreZeroPage l,
    .pha, .eorImmediate l, .lsrAccumulator, .unsupported 0x4B,
    .jmpAbsolute (operandWord l h), .eorAbsolute (operandWord l h), .lsrAbsolute (operandWord l h), .sreAbsolute (operandWord l h) ]

/-- Row 0x5x of the opcode map (R128); `l` and `h` are the second and third byte. -/
def opcodeRow5 (l h : Byte) : List Instr :=
  [ .bvc l, .eorIndirectIndexed l, .unsupported 0x52, .sreIndirectIndexed l,
    .nopZeroPageX54 l, .eorZeroPageX l, .lsrZeroPageX l, .sreZeroPageX l,
    .cli, .eorAbsoluteY (operandWord l h), .nopImplied5A, .sreAbsoluteY (operandWord l h),
    .nopAbsoluteX5C (operandWord l h), .eorAbsoluteX (operandWord l h), .lsrAbsoluteX (operandWord l h), .sreAbsoluteX (operandWord l h) ]

/-- Row 0x6x of the opcode map (R128); `l` and `h` are the second and third byte. -/
def opcodeRow6 (l h : Byte) : List Instr :=
  [ .rts, .adcIndexedIndirect l, .unsupported 0x62, .rraIndexedIndirect l,
    .nopZeroPage64 l, .adcZeroPage l, .rorZeroPage l, .rraZeroPage l,
    .pla, .adcImmediate l, .rorAccumulator, .unsupported 0x6B,
    .jmpIndirect (operandWord l h), .adcAbsolute (operandWord l h), .rorAbsolute (operandWord l h), .rraAbsolute (operandWord l h) ]

/-- Row 0x7x of the opcode map (R128); `l` and `h` are the second and third byte. -/
def opcodeRow7 (l h : Byte) : List Instr :=
  [ .bvs l, .adcIndirectIndexed l, .unsupported 0x72, .rraIndirectIndexed l,
    .nopZeroPageX74 l, .adcZeroPageX l, .rorZeroPageX l, .rraZeroPageX l,
    .sei, .adcAbsoluteY (operandWord l h), .nopImplied7A, .rraAbsoluteY (operandWord l h),
    .nopAbsoluteX7C (operandWord l h), .adcAbsoluteX (operandWord l h), .rorAbsoluteX (operandWord l h), .rraAbsoluteX (operandWord l h) ]

/-- Row 0x8x of the opcode map (R128); `l` and `h` are the second and third byte. -/
def opcodeRow8 (l h : Byte) : List Instr :=
  [ .nopImmediate80 l, .staIndexedIndirect l, .nopImmediate82 l, .saxIndexedIndirect l,
    .styZeroPage l, .staZeroPage l, .stxZeroPage l, .saxZeroPage l,
    .dey, .nopImmediate89 l, .txa, .unsupported 0x8B,
    .styAbsolute (operandWord l h), .staAbsolute (operandWord l h), .stxAbsolute (operandWord l h), .saxAbsolute (operandWord l h) ]

/-- Row 0x9x of the opcode map (R128); `l` and `h` are the second and third byte. -/
def opcodeRow9 (l h : Byte) : List Instr :=
  [ .bcc l, .staIndirectIndexed l, .unsupported 0x92, .unsupported 0x93,
    .styZeroPageX l, .staZeroPageX l, .stxZeroPageY l, .saxZeroPageY l,
    .tya, .staAbsoluteY (operandWord l h), .txs, .unsupported 0x9B,
    .unsupported 0x9C, .staAbsoluteX (operandWord l h), .unsupported 0x9E, .unsupported 0x9F ]

/-- Row 0xAx of the opcode map (R128); `l` and `h` are the second and third byte. -/
def opcodeRowA (l h : Byte) : List Instr :=
  [ .ldyImmediate l, .ldaIndexedIndirect l, .ldxImmediate l, .laxIndexedIndirect l,
    .ldyZeroPage l, .ldaZeroPage l, .ldxZeroPage l, .laxZeroPage l,
    .tay, .ldaImmediate l, .tax, .unsupported 0xAB,
    .ldyAbsolute (operandWord l h), .ldaAbsolute (operandWord l h), .ldxAbsolute (operandWord l h), .laxAbsolute (operandWord l h) ]

/-- Row 0xBx of the opcode map (R128); `l` and `h` are the second and third byte. -/
def opcodeRowB (l h : Byte) : List Instr :=
  [ .bcs l, .ldaIndirectIndexed l, .unsupported 0xB2, .laxIndirectIndexed l,
    .ldyZeroPageX l, .ldaZeroPageX l, .ldxZeroPageY l, .laxZeroPageY l,
    .clv, .ldaAbsoluteY (operandWord l h), .tsx, .unsupported 0xBB,
    .ldyAbsoluteX (operandWord l h), .ldaAbsoluteX (operandWord l h), .ldxAbsoluteY (operandWord l h), .laxAbsoluteY (operandWord l h) ]

/-- Row 0xCx of the opcode map (R128); `l` and `h` are the second and third byte. -/
def opcodeRowC (l h : Byte) : List Instr :=
  [ .cpyImmediate l, .cmpIndexedIndirect l, .nopImmediateC2 l, .dcpIndexedIndirect l,
    .cpyZeroPage l, .cmpZeroPage l, .decZeroPage l, .dcpZeroPage l,
    .iny, .cmpImmediate l, .dex, .unsupported 0xCB,
    .cpyAbsolute (operandWord l h), .cmpAbsolute (operandWord l h), .decAbsolute (operandWord l h), .dcpAbsolute (operandWord l h) ]

/-- Row 0xDx of the opcode map (R128); `l` and `h` are the second and third byte. -/
def opcodeRowD (l h : Byte) : List Instr :=
  [ .bne l, .cmpIndirectIndexed l, .unsupported 0xD2, .dcpIndirectIndexed l,
    .nopZeroPageXD4 l, .cmpZeroPageX l, .decZeroPageX l, .dcpZeroPageX l,
    .cld, .cmpAbsoluteY (operandWord l h), .nopImpliedDA, .dcpAbsoluteY (operandWord l h),
    .nopAbsoluteXDC (operandWord l h), .cmpAbsoluteX (operandWord l h), .decAbsoluteX (operandWord l h), .dcpAbsoluteX (operandWord l h) ]

/-- Row 0xEx of the opcode map (R128); `l` and `h` are the second and third byte. -/
def opcodeRowE (l h : Byte) : List Instr :=
  [ .cpxImmediate l, .sbcIndexedIndirect l, .nopImmediateE2 l, .isbIndexedIndirect l,
    .cpxZeroPage l, .sbcZeroPage l, .incZeroPage l, .isbZeroPage l,
    .inx, .sbcImmediate l, .nop, .sbcImmediateEB l,
    .cpxAbsolute (operandWord l h), .sbcAbsolute (operandWord l h), .incAbsolute (operandWord l h), .isbAbsolute (operandWord l h) ]

/-- Row 0xFx of the opcode map (R128); `l` and `h` are the second and third byte. -/
def opcodeRowF (l h : Byte) : List Instr :=
  [ .beq l, .sbcIndirectIndexed l, .unsupported 0xF2, .isbIndirectIndexed l,
    .nopZeroPageXF4 l, .sbcZeroPageX l, .incZeroPageX l, .isbZeroPageX l,
    .sed, .sbcAbsoluteY (operandWord l h), .nopImpliedFA, .isbAbsoluteY (operandWord l h),
    .nopAbsoluteXFC (operandWord l h), .sbcAbsoluteX (operandWord l h), .incAbsoluteX (operandWord l h), .isbAbsoluteX (operandWord l h) ]

/-- The rows of the opcode map in order (R128). -/
def opcodeRow (hi : Nat) (l h : Byte) : List Instr :=
  match hi with
  | 0 => opcodeRow0 l h
  | 1 => opcodeRow1 l h
  | 2 => opcodeRow2 l h
  | 3 => opcodeRow3 l h
  | 4 => opcodeRow4 l h
  | 5 => opcodeRow5 l h
  | 6 => opcodeRow6 l h
  | 7 => opcodeRow7 l h
  | 8 => opcodeRow8 l h
  | 9 => opcodeRow9 l h
  | 10 => opcodeRowA l h
  | 11 => opcodeRowB l h
  | 12 => opcodeRowC l h
  | 13 => opcodeRowD l h
  | 14 => opcodeRowE l h
  | _ => opcodeRowF l h

/-- The instruction of an opcode byte and the two bytes after it, of which an instruction uses those of its length (R110,
R128). Total: an unsupported opcode is the instruction `unsupported` (R131). -/
def instrOf (op l h : Byte) : Instr :=
  (opcodeRow (op.toNat / 16) l h).getD (op.toNat % 16) (.unsupported op)

/-- Why a list of bytes is no instruction. -/
inductive DecodeError where
  /-- There is no opcode byte. -/
  | empty
  /-- Fewer bytes than the opcode's length (R110). -/
  | truncated (op : Byte)
  deriving DecidableEq, Repr

/-- Decodes the first instruction of a list of bytes and gives the rest of the list; rejects by name. -/
def decode : List Byte → Except DecodeError (Instr × List Byte)
  | [] => .error .empty
  | op :: rest =>
    let i := instrOf op (rest.getD 0 0) (rest.getD 1 0)
    if rest.length + 1 < i.length then .error (.truncated op) else .ok (i, rest.drop (i.length - 1))

/-- The low byte of a 16-bit operand, the first in memory (R50). -/
def operandLo (w : Word) : Byte := w.setWidth 8

/-- The high byte of a 16-bit operand. -/
def operandHi (w : Word) : Byte := (w >>> 8).setWidth 8

/-- The opcode byte of an instruction (R129 to R131). -/
def Instr.opcode : Instr → Byte
  | .brk => 0x00
  | .oraIndexedIndirect _ => 0x01
  | .sloIndexedIndirect _ => 0x03
  | .nopZeroPage04 _ => 0x04
  | .oraZeroPage _ => 0x05
  | .aslZeroPage _ => 0x06
  | .sloZeroPage _ => 0x07
  | .php => 0x08
  | .oraImmediate _ => 0x09
  | .aslAccumulator => 0x0A
  | .nopAbsolute0C _ => 0x0C
  | .oraAbsolute _ => 0x0D
  | .aslAbsolute _ => 0x0E
  | .sloAbsolute _ => 0x0F
  | .bpl _ => 0x10
  | .oraIndirectIndexed _ => 0x11
  | .sloIndirectIndexed _ => 0x13
  | .nopZeroPageX14 _ => 0x14
  | .oraZeroPageX _ => 0x15
  | .aslZeroPageX _ => 0x16
  | .sloZeroPageX _ => 0x17
  | .clc => 0x18
  | .oraAbsoluteY _ => 0x19
  | .nopImplied1A => 0x1A
  | .sloAbsoluteY _ => 0x1B
  | .nopAbsoluteX1C _ => 0x1C
  | .oraAbsoluteX _ => 0x1D
  | .aslAbsoluteX _ => 0x1E
  | .sloAbsoluteX _ => 0x1F
  | .jsrAbsolute _ => 0x20
  | .andIndexedIndirect _ => 0x21
  | .rlaIndexedIndirect _ => 0x23
  | .bitZeroPage _ => 0x24
  | .andZeroPage _ => 0x25
  | .rolZeroPage _ => 0x26
  | .rlaZeroPage _ => 0x27
  | .plp => 0x28
  | .andImmediate _ => 0x29
  | .rolAccumulator => 0x2A
  | .bitAbsolute _ => 0x2C
  | .andAbsolute _ => 0x2D
  | .rolAbsolute _ => 0x2E
  | .rlaAbsolute _ => 0x2F
  | .bmi _ => 0x30
  | .andIndirectIndexed _ => 0x31
  | .rlaIndirectIndexed _ => 0x33
  | .nopZeroPageX34 _ => 0x34
  | .andZeroPageX _ => 0x35
  | .rolZeroPageX _ => 0x36
  | .rlaZeroPageX _ => 0x37
  | .sec => 0x38
  | .andAbsoluteY _ => 0x39
  | .nopImplied3A => 0x3A
  | .rlaAbsoluteY _ => 0x3B
  | .nopAbsoluteX3C _ => 0x3C
  | .andAbsoluteX _ => 0x3D
  | .rolAbsoluteX _ => 0x3E
  | .rlaAbsoluteX _ => 0x3F
  | .rti => 0x40
  | .eorIndexedIndirect _ => 0x41
  | .sreIndexedIndirect _ => 0x43
  | .nopZeroPage44 _ => 0x44
  | .eorZeroPage _ => 0x45
  | .lsrZeroPage _ => 0x46
  | .sreZeroPage _ => 0x47
  | .pha => 0x48
  | .eorImmediate _ => 0x49
  | .lsrAccumulator => 0x4A
  | .jmpAbsolute _ => 0x4C
  | .eorAbsolute _ => 0x4D
  | .lsrAbsolute _ => 0x4E
  | .sreAbsolute _ => 0x4F
  | .bvc _ => 0x50
  | .eorIndirectIndexed _ => 0x51
  | .sreIndirectIndexed _ => 0x53
  | .nopZeroPageX54 _ => 0x54
  | .eorZeroPageX _ => 0x55
  | .lsrZeroPageX _ => 0x56
  | .sreZeroPageX _ => 0x57
  | .cli => 0x58
  | .eorAbsoluteY _ => 0x59
  | .nopImplied5A => 0x5A
  | .sreAbsoluteY _ => 0x5B
  | .nopAbsoluteX5C _ => 0x5C
  | .eorAbsoluteX _ => 0x5D
  | .lsrAbsoluteX _ => 0x5E
  | .sreAbsoluteX _ => 0x5F
  | .rts => 0x60
  | .adcIndexedIndirect _ => 0x61
  | .rraIndexedIndirect _ => 0x63
  | .nopZeroPage64 _ => 0x64
  | .adcZeroPage _ => 0x65
  | .rorZeroPage _ => 0x66
  | .rraZeroPage _ => 0x67
  | .pla => 0x68
  | .adcImmediate _ => 0x69
  | .rorAccumulator => 0x6A
  | .jmpIndirect _ => 0x6C
  | .adcAbsolute _ => 0x6D
  | .rorAbsolute _ => 0x6E
  | .rraAbsolute _ => 0x6F
  | .bvs _ => 0x70
  | .adcIndirectIndexed _ => 0x71
  | .rraIndirectIndexed _ => 0x73
  | .nopZeroPageX74 _ => 0x74
  | .adcZeroPageX _ => 0x75
  | .rorZeroPageX _ => 0x76
  | .rraZeroPageX _ => 0x77
  | .sei => 0x78
  | .adcAbsoluteY _ => 0x79
  | .nopImplied7A => 0x7A
  | .rraAbsoluteY _ => 0x7B
  | .nopAbsoluteX7C _ => 0x7C
  | .adcAbsoluteX _ => 0x7D
  | .rorAbsoluteX _ => 0x7E
  | .rraAbsoluteX _ => 0x7F
  | .nopImmediate80 _ => 0x80
  | .staIndexedIndirect _ => 0x81
  | .nopImmediate82 _ => 0x82
  | .saxIndexedIndirect _ => 0x83
  | .styZeroPage _ => 0x84
  | .staZeroPage _ => 0x85
  | .stxZeroPage _ => 0x86
  | .saxZeroPage _ => 0x87
  | .dey => 0x88
  | .nopImmediate89 _ => 0x89
  | .txa => 0x8A
  | .styAbsolute _ => 0x8C
  | .staAbsolute _ => 0x8D
  | .stxAbsolute _ => 0x8E
  | .saxAbsolute _ => 0x8F
  | .bcc _ => 0x90
  | .staIndirectIndexed _ => 0x91
  | .styZeroPageX _ => 0x94
  | .staZeroPageX _ => 0x95
  | .stxZeroPageY _ => 0x96
  | .saxZeroPageY _ => 0x97
  | .tya => 0x98
  | .staAbsoluteY _ => 0x99
  | .txs => 0x9A
  | .staAbsoluteX _ => 0x9D
  | .ldyImmediate _ => 0xA0
  | .ldaIndexedIndirect _ => 0xA1
  | .ldxImmediate _ => 0xA2
  | .laxIndexedIndirect _ => 0xA3
  | .ldyZeroPage _ => 0xA4
  | .ldaZeroPage _ => 0xA5
  | .ldxZeroPage _ => 0xA6
  | .laxZeroPage _ => 0xA7
  | .tay => 0xA8
  | .ldaImmediate _ => 0xA9
  | .tax => 0xAA
  | .ldyAbsolute _ => 0xAC
  | .ldaAbsolute _ => 0xAD
  | .ldxAbsolute _ => 0xAE
  | .laxAbsolute _ => 0xAF
  | .bcs _ => 0xB0
  | .ldaIndirectIndexed _ => 0xB1
  | .laxIndirectIndexed _ => 0xB3
  | .ldyZeroPageX _ => 0xB4
  | .ldaZeroPageX _ => 0xB5
  | .ldxZeroPageY _ => 0xB6
  | .laxZeroPageY _ => 0xB7
  | .clv => 0xB8
  | .ldaAbsoluteY _ => 0xB9
  | .tsx => 0xBA
  | .ldyAbsoluteX _ => 0xBC
  | .ldaAbsoluteX _ => 0xBD
  | .ldxAbsoluteY _ => 0xBE
  | .laxAbsoluteY _ => 0xBF
  | .cpyImmediate _ => 0xC0
  | .cmpIndexedIndirect _ => 0xC1
  | .nopImmediateC2 _ => 0xC2
  | .dcpIndexedIndirect _ => 0xC3
  | .cpyZeroPage _ => 0xC4
  | .cmpZeroPage _ => 0xC5
  | .decZeroPage _ => 0xC6
  | .dcpZeroPage _ => 0xC7
  | .iny => 0xC8
  | .cmpImmediate _ => 0xC9
  | .dex => 0xCA
  | .cpyAbsolute _ => 0xCC
  | .cmpAbsolute _ => 0xCD
  | .decAbsolute _ => 0xCE
  | .dcpAbsolute _ => 0xCF
  | .bne _ => 0xD0
  | .cmpIndirectIndexed _ => 0xD1
  | .dcpIndirectIndexed _ => 0xD3
  | .nopZeroPageXD4 _ => 0xD4
  | .cmpZeroPageX _ => 0xD5
  | .decZeroPageX _ => 0xD6
  | .dcpZeroPageX _ => 0xD7
  | .cld => 0xD8
  | .cmpAbsoluteY _ => 0xD9
  | .nopImpliedDA => 0xDA
  | .dcpAbsoluteY _ => 0xDB
  | .nopAbsoluteXDC _ => 0xDC
  | .cmpAbsoluteX _ => 0xDD
  | .decAbsoluteX _ => 0xDE
  | .dcpAbsoluteX _ => 0xDF
  | .cpxImmediate _ => 0xE0
  | .sbcIndexedIndirect _ => 0xE1
  | .nopImmediateE2 _ => 0xE2
  | .isbIndexedIndirect _ => 0xE3
  | .cpxZeroPage _ => 0xE4
  | .sbcZeroPage _ => 0xE5
  | .incZeroPage _ => 0xE6
  | .isbZeroPage _ => 0xE7
  | .inx => 0xE8
  | .sbcImmediate _ => 0xE9
  | .nop => 0xEA
  | .sbcImmediateEB _ => 0xEB
  | .cpxAbsolute _ => 0xEC
  | .sbcAbsolute _ => 0xED
  | .incAbsolute _ => 0xEE
  | .isbAbsolute _ => 0xEF
  | .beq _ => 0xF0
  | .sbcIndirectIndexed _ => 0xF1
  | .isbIndirectIndexed _ => 0xF3
  | .nopZeroPageXF4 _ => 0xF4
  | .sbcZeroPageX _ => 0xF5
  | .incZeroPageX _ => 0xF6
  | .isbZeroPageX _ => 0xF7
  | .sed => 0xF8
  | .sbcAbsoluteY _ => 0xF9
  | .nopImpliedFA => 0xFA
  | .isbAbsoluteY _ => 0xFB
  | .nopAbsoluteXFC _ => 0xFC
  | .sbcAbsoluteX _ => 0xFD
  | .incAbsoluteX _ => 0xFE
  | .isbAbsoluteX _ => 0xFF
  | .unsupported op => op

/-- The operand bytes of an instruction, in memory order (R110). -/
def Instr.operandBytes : Instr → List Byte
  | .brk => []
  | .oraIndexedIndirect zp => [zp]
  | .sloIndexedIndirect zp => [zp]
  | .nopZeroPage04 zp => [zp]
  | .oraZeroPage zp => [zp]
  | .aslZeroPage zp => [zp]
  | .sloZeroPage zp => [zp]
  | .php => []
  | .oraImmediate imm => [imm]
  | .aslAccumulator => []
  | .nopAbsolute0C w => [operandLo w, operandHi w]
  | .oraAbsolute w => [operandLo w, operandHi w]
  | .aslAbsolute w => [operandLo w, operandHi w]
  | .sloAbsolute w => [operandLo w, operandHi w]
  | .bpl off => [off]
  | .oraIndirectIndexed zp => [zp]
  | .sloIndirectIndexed zp => [zp]
  | .nopZeroPageX14 zp => [zp]
  | .oraZeroPageX zp => [zp]
  | .aslZeroPageX zp => [zp]
  | .sloZeroPageX zp => [zp]
  | .clc => []
  | .oraAbsoluteY w => [operandLo w, operandHi w]
  | .nopImplied1A => []
  | .sloAbsoluteY w => [operandLo w, operandHi w]
  | .nopAbsoluteX1C w => [operandLo w, operandHi w]
  | .oraAbsoluteX w => [operandLo w, operandHi w]
  | .aslAbsoluteX w => [operandLo w, operandHi w]
  | .sloAbsoluteX w => [operandLo w, operandHi w]
  | .jsrAbsolute w => [operandLo w, operandHi w]
  | .andIndexedIndirect zp => [zp]
  | .rlaIndexedIndirect zp => [zp]
  | .bitZeroPage zp => [zp]
  | .andZeroPage zp => [zp]
  | .rolZeroPage zp => [zp]
  | .rlaZeroPage zp => [zp]
  | .plp => []
  | .andImmediate imm => [imm]
  | .rolAccumulator => []
  | .bitAbsolute w => [operandLo w, operandHi w]
  | .andAbsolute w => [operandLo w, operandHi w]
  | .rolAbsolute w => [operandLo w, operandHi w]
  | .rlaAbsolute w => [operandLo w, operandHi w]
  | .bmi off => [off]
  | .andIndirectIndexed zp => [zp]
  | .rlaIndirectIndexed zp => [zp]
  | .nopZeroPageX34 zp => [zp]
  | .andZeroPageX zp => [zp]
  | .rolZeroPageX zp => [zp]
  | .rlaZeroPageX zp => [zp]
  | .sec => []
  | .andAbsoluteY w => [operandLo w, operandHi w]
  | .nopImplied3A => []
  | .rlaAbsoluteY w => [operandLo w, operandHi w]
  | .nopAbsoluteX3C w => [operandLo w, operandHi w]
  | .andAbsoluteX w => [operandLo w, operandHi w]
  | .rolAbsoluteX w => [operandLo w, operandHi w]
  | .rlaAbsoluteX w => [operandLo w, operandHi w]
  | .rti => []
  | .eorIndexedIndirect zp => [zp]
  | .sreIndexedIndirect zp => [zp]
  | .nopZeroPage44 zp => [zp]
  | .eorZeroPage zp => [zp]
  | .lsrZeroPage zp => [zp]
  | .sreZeroPage zp => [zp]
  | .pha => []
  | .eorImmediate imm => [imm]
  | .lsrAccumulator => []
  | .jmpAbsolute w => [operandLo w, operandHi w]
  | .eorAbsolute w => [operandLo w, operandHi w]
  | .lsrAbsolute w => [operandLo w, operandHi w]
  | .sreAbsolute w => [operandLo w, operandHi w]
  | .bvc off => [off]
  | .eorIndirectIndexed zp => [zp]
  | .sreIndirectIndexed zp => [zp]
  | .nopZeroPageX54 zp => [zp]
  | .eorZeroPageX zp => [zp]
  | .lsrZeroPageX zp => [zp]
  | .sreZeroPageX zp => [zp]
  | .cli => []
  | .eorAbsoluteY w => [operandLo w, operandHi w]
  | .nopImplied5A => []
  | .sreAbsoluteY w => [operandLo w, operandHi w]
  | .nopAbsoluteX5C w => [operandLo w, operandHi w]
  | .eorAbsoluteX w => [operandLo w, operandHi w]
  | .lsrAbsoluteX w => [operandLo w, operandHi w]
  | .sreAbsoluteX w => [operandLo w, operandHi w]
  | .rts => []
  | .adcIndexedIndirect zp => [zp]
  | .rraIndexedIndirect zp => [zp]
  | .nopZeroPage64 zp => [zp]
  | .adcZeroPage zp => [zp]
  | .rorZeroPage zp => [zp]
  | .rraZeroPage zp => [zp]
  | .pla => []
  | .adcImmediate imm => [imm]
  | .rorAccumulator => []
  | .jmpIndirect ptr => [operandLo ptr, operandHi ptr]
  | .adcAbsolute w => [operandLo w, operandHi w]
  | .rorAbsolute w => [operandLo w, operandHi w]
  | .rraAbsolute w => [operandLo w, operandHi w]
  | .bvs off => [off]
  | .adcIndirectIndexed zp => [zp]
  | .rraIndirectIndexed zp => [zp]
  | .nopZeroPageX74 zp => [zp]
  | .adcZeroPageX zp => [zp]
  | .rorZeroPageX zp => [zp]
  | .rraZeroPageX zp => [zp]
  | .sei => []
  | .adcAbsoluteY w => [operandLo w, operandHi w]
  | .nopImplied7A => []
  | .rraAbsoluteY w => [operandLo w, operandHi w]
  | .nopAbsoluteX7C w => [operandLo w, operandHi w]
  | .adcAbsoluteX w => [operandLo w, operandHi w]
  | .rorAbsoluteX w => [operandLo w, operandHi w]
  | .rraAbsoluteX w => [operandLo w, operandHi w]
  | .nopImmediate80 imm => [imm]
  | .staIndexedIndirect zp => [zp]
  | .nopImmediate82 imm => [imm]
  | .saxIndexedIndirect zp => [zp]
  | .styZeroPage zp => [zp]
  | .staZeroPage zp => [zp]
  | .stxZeroPage zp => [zp]
  | .saxZeroPage zp => [zp]
  | .dey => []
  | .nopImmediate89 imm => [imm]
  | .txa => []
  | .styAbsolute w => [operandLo w, operandHi w]
  | .staAbsolute w => [operandLo w, operandHi w]
  | .stxAbsolute w => [operandLo w, operandHi w]
  | .saxAbsolute w => [operandLo w, operandHi w]
  | .bcc off => [off]
  | .staIndirectIndexed zp => [zp]
  | .styZeroPageX zp => [zp]
  | .staZeroPageX zp => [zp]
  | .stxZeroPageY zp => [zp]
  | .saxZeroPageY zp => [zp]
  | .tya => []
  | .staAbsoluteY w => [operandLo w, operandHi w]
  | .txs => []
  | .staAbsoluteX w => [operandLo w, operandHi w]
  | .ldyImmediate imm => [imm]
  | .ldaIndexedIndirect zp => [zp]
  | .ldxImmediate imm => [imm]
  | .laxIndexedIndirect zp => [zp]
  | .ldyZeroPage zp => [zp]
  | .ldaZeroPage zp => [zp]
  | .ldxZeroPage zp => [zp]
  | .laxZeroPage zp => [zp]
  | .tay => []
  | .ldaImmediate imm => [imm]
  | .tax => []
  | .ldyAbsolute w => [operandLo w, operandHi w]
  | .ldaAbsolute w => [operandLo w, operandHi w]
  | .ldxAbsolute w => [operandLo w, operandHi w]
  | .laxAbsolute w => [operandLo w, operandHi w]
  | .bcs off => [off]
  | .ldaIndirectIndexed zp => [zp]
  | .laxIndirectIndexed zp => [zp]
  | .ldyZeroPageX zp => [zp]
  | .ldaZeroPageX zp => [zp]
  | .ldxZeroPageY zp => [zp]
  | .laxZeroPageY zp => [zp]
  | .clv => []
  | .ldaAbsoluteY w => [operandLo w, operandHi w]
  | .tsx => []
  | .ldyAbsoluteX w => [operandLo w, operandHi w]
  | .ldaAbsoluteX w => [operandLo w, operandHi w]
  | .ldxAbsoluteY w => [operandLo w, operandHi w]
  | .laxAbsoluteY w => [operandLo w, operandHi w]
  | .cpyImmediate imm => [imm]
  | .cmpIndexedIndirect zp => [zp]
  | .nopImmediateC2 imm => [imm]
  | .dcpIndexedIndirect zp => [zp]
  | .cpyZeroPage zp => [zp]
  | .cmpZeroPage zp => [zp]
  | .decZeroPage zp => [zp]
  | .dcpZeroPage zp => [zp]
  | .iny => []
  | .cmpImmediate imm => [imm]
  | .dex => []
  | .cpyAbsolute w => [operandLo w, operandHi w]
  | .cmpAbsolute w => [operandLo w, operandHi w]
  | .decAbsolute w => [operandLo w, operandHi w]
  | .dcpAbsolute w => [operandLo w, operandHi w]
  | .bne off => [off]
  | .cmpIndirectIndexed zp => [zp]
  | .dcpIndirectIndexed zp => [zp]
  | .nopZeroPageXD4 zp => [zp]
  | .cmpZeroPageX zp => [zp]
  | .decZeroPageX zp => [zp]
  | .dcpZeroPageX zp => [zp]
  | .cld => []
  | .cmpAbsoluteY w => [operandLo w, operandHi w]
  | .nopImpliedDA => []
  | .dcpAbsoluteY w => [operandLo w, operandHi w]
  | .nopAbsoluteXDC w => [operandLo w, operandHi w]
  | .cmpAbsoluteX w => [operandLo w, operandHi w]
  | .decAbsoluteX w => [operandLo w, operandHi w]
  | .dcpAbsoluteX w => [operandLo w, operandHi w]
  | .cpxImmediate imm => [imm]
  | .sbcIndexedIndirect zp => [zp]
  | .nopImmediateE2 imm => [imm]
  | .isbIndexedIndirect zp => [zp]
  | .cpxZeroPage zp => [zp]
  | .sbcZeroPage zp => [zp]
  | .incZeroPage zp => [zp]
  | .isbZeroPage zp => [zp]
  | .inx => []
  | .sbcImmediate imm => [imm]
  | .nop => []
  | .sbcImmediateEB imm => [imm]
  | .cpxAbsolute w => [operandLo w, operandHi w]
  | .sbcAbsolute w => [operandLo w, operandHi w]
  | .incAbsolute w => [operandLo w, operandHi w]
  | .isbAbsolute w => [operandLo w, operandHi w]
  | .beq off => [off]
  | .sbcIndirectIndexed zp => [zp]
  | .isbIndirectIndexed zp => [zp]
  | .nopZeroPageXF4 zp => [zp]
  | .sbcZeroPageX zp => [zp]
  | .incZeroPageX zp => [zp]
  | .isbZeroPageX zp => [zp]
  | .sed => []
  | .sbcAbsoluteY w => [operandLo w, operandHi w]
  | .nopImpliedFA => []
  | .isbAbsoluteY w => [operandLo w, operandHi w]
  | .nopAbsoluteXFC w => [operandLo w, operandHi w]
  | .sbcAbsoluteX w => [operandLo w, operandHi w]
  | .incAbsoluteX w => [operandLo w, operandHi w]
  | .isbAbsoluteX w => [operandLo w, operandHi w]
  | .unsupported _ => []

/-- The bytes of an instruction, at ascending addresses (R110). -/
def encode (i : Instr) : List Byte := i.opcode :: i.operandBytes

/-- The host's view: the instruction decoded from bits `w`, the first byte in bits 7 to 0, every bit from `nbits` on 0. -/
def tableBytes (nbits w : Nat) : List Byte :=
  let v := w % 2 ^ nbits
  [BitVec.ofNat 8 v, BitVec.ofNat 8 (v / 256), BitVec.ofNat 8 (v / 65536)]

/-- What the decoder reads from a table row's word (see `tableBytes`); none where it rejects. -/
def decodeTableWord (nbits w : Nat) : Option Instr :=
  match decode (tableBytes nbits w) with
  | .ok (i, _) => some i
  | .error _ => none

end Sys2Proof
end

