-- ==== Sys2Proof/Machine/Fetch.lean ====
section
/-! DEFINITION. Fetching an instruction (30_encoding.md R112 steps 1, 2, 3 and the operand bytes of step 5), and placing one
where the machine fetches. -/

namespace Sys2Proof.Machine

/-- The opcode has a handler on this machine: it is documented, or of `UNDOC_SET` where that set is not empty (R131, R265). -/
def State.supports (s : State) (i : Instr) : Bool :=
  match i.status with
  | .documented => true
  | .undocumented => s.params.undocSet
  | .unsupported => false

/-- The bytes read of an instruction with opcode byte `op`: of an unsupported one only the opcode (R110, R301). -/
def fetchLength (s : State) (op : Byte) : Nat :=
  let i := instrOf op 0 0
  if s.supports i then i.length else 1

/-- Reads `n` bytes from `addr` on, in ascending address order (R112, D13). -/
def fetchBytes (addr : Word) (n : Nat) (s : State) : List Byte × State :=
  match n with
  | 0 => ([], s)
  | n + 1 =>
    let r := busRead addr s
    let t := fetchBytes (addr + 1) n r.2
    (r.1 :: t.1, t.2)

/-- The next instruction, at `PC`, and the state after its bytes are read; `PC` is not moved. -/
def fetchInstr (s : State) : Instr × State :=
  let op := busRead s.pc s
  let t := fetchBytes (s.pc + 1) (fetchLength op.2 op.1 - 1) op.2
  (instrOf op.1 (t.1.getD 0 0) (t.1.getD 1 0), t.2)

/-- Storage of this machine answers at the address, so that a byte can be placed there. -/
def State.holds (s : State) (addr : Word) : Bool := (s.peek addr).isSome

/-- Places a byte at a bus address that storage answers, as the loader or a debugger would: into RAM, battery RAM or the
program ROM byte mapped there. -/
def State.poke (s : State) (addr : Word) (v : Byte) : State :=
  match region addr with
  | .ram => { s with ram := s.ram.write (ramOffset addr) v }
  | .cartridge =>
    if addr.toNat < 0x8000 then
      (if s.cart.hasPrgRam then { s with cart := { s.cart with prgRam := s.cart.prgRam.write (addr.toNat % 0x2000) v } }
       else s)
    else { s with cart := { s.cart with prg := s.cart.prg.write (s.cart.prgIndex addr) v } }
  | _ => s

/-- Places bytes from an address on. -/
def State.pokeBytes (s : State) (addr : Word) (bytes : List Byte) : State :=
  match bytes with
  | [] => s
  | v :: rest => (s.poke addr v).pokeBytes (addr + 1) rest

/-- The machine ready to run an instruction at its next step: not halted, no event or interrupt coming, no APU step owed. A
machine that is ready is left as it is. -/
def State.readied (s : State) : State :=
  { s with
    halted := none, nmiPending := false, boundaries := [], apuOwed := 0
    extIrq := s.extIrq && s.flags.i
    apu := { s.apu with frameIrq := s.apu.frameIrq && s.flags.i, dmcIrq := s.apu.dmcIrq && s.flags.i } }

/-- `PC` moved to RAM if storage does not answer at the three addresses from `PC` on (log entry 12). -/
def State.placeable (s : State) : State :=
  if s.holds s.pc && s.holds (s.pc + 1) && s.holds (s.pc + 2) then s else { s with pc := 0x0200 }

/-- The machine with `bytes` placed where its next step fetches (log entry 12). -/
def State.withBytes (s : State) (bytes : List Byte) : State :=
  let t := s.readied.placeable
  t.pokeBytes t.pc bytes

end Sys2Proof.Machine
end

