-- ==== Sys2Proof/Machine/Step.lean ====
section
/-! DEFINITION. One pass of the stepping loop (70_reset_and_hazards.md R386): the events of the boundary, one CPU step chosen by
60_exceptions.md R307, and the APU steps it owes (log entry 7). -/

namespace Sys2Proof.Machine

/-- The instruction at `PC` and then the APU steps it owes (R112, R386). -/
def instrStep (s : State) : Host.Outcome State Fault Refusal :=
  let f := fetchInstr s
  match exec f.1 f.2 with
  | .next t => .next (drainApu t)
  | .fault r => .fault r
  | .refused r => .refused r

/-- The CPU step chosen at a boundary and the APU steps it owes; a halted machine takes none (R307, R384). -/
def cpuStep (s : State) : Host.Outcome State Fault Refusal :=
  match s.halted with
  | some r => .fault (.halted r)
  | none =>
    if s.nmiPending then .next (drainApu (nmiEntry s))
    else if s.irqLine && !s.flags.i then .next (drainApu (irqEntry s))
    else instrStep s

/-- One step. APU steps still owed are taken before anything else is enabled (R386). -/
def step (s : State) : Host.Outcome State Fault Refusal :=
  if s.halted.isNone && s.apuOwed != 0 then .next (drainApu s)
  else cpuStep (deliverBoundary s)

/-- The host's placement: the instruction whose bits are `w` (see `tableBytes`) stored where `step` fetches next. -/
def State.withFetchWord (s : State) (nbits w : Nat) : State := s.withBytes (tableBytes nbits w)

end Sys2Proof.Machine
end

