-- ==== Sys2Proof/Safety.lean ====
section
/-! DEFINITION. The terms claims use: the invariant of every run, what a step may and may not touch, room on the stack, and
the forms of each instruction written out from spec/opcode_table.json (its length, its base cycles, whether a crossed page
costs one more, and where its operand lies), independently of the meanings. -/

namespace Sys2Proof.Machine

/-- What holds of the machine at every step boundary of every run: the byte stores are canonical and within their sizes, program
ROM is not empty and `N_PRG_BANKS` counts its banks (R5), the frame step is one of the mode's (R335), the noise register is never 0
(R333), the sample counters keep their ranges (R334), the serial port has only the bits it has counted (R82), and nothing is left
over of the step before (R386, R58). -/
structure State.Inv (s : State) : Prop where
  ramWf : s.ram.wf = true
  ramWithin : s.ram.within ramSize = true
  prgRamWf : s.cart.prgRam.wf = true
  prgRamWithin : s.cart.prgRam.within prgRamSize = true
  prgWf : s.cart.prg.wf = true
  prgWithin : s.cart.prg.within s.cart.prgLen = true
  prgNonempty : 0 < s.cart.prgLen
  banks : s.cart.nPrgBanks = s.cart.prgLen / 16384
  chrWf : s.cart.chr.wf = true
  serial : s.cart.shift.toNat < 2 ^ s.cart.count.val
  frameStep : s.apu.frameStep.toNat < frameSteps s.apu.frameMode
  lfsr : s.apu.noise.lfsr ≠ 0
  bitsLeft : s.apu.dmc.bitsLeft.toNat ≤ 8
  sampleLen : s.apu.dmc.sampleLen.toNat ≤ 4081
  bytesLeft : s.apu.dmc.bytesLeft.toNat ≤ 4081
  settled : s.apuOwed = 0
  noExtra : s.extraCycles = 0

/-- What the loader grants (R5, R75, R30): a program ROM that is not empty, and byte stores in canonical form within their sizes. -/
structure Loaded.Valid (d : Loaded) : Prop where
  prgNonempty : 0 < d.prgLen
  prgWf : d.prg.wf = true
  prgWithin : d.prg.within d.prgLen = true
  chrWf : d.chr.wf = true
  prgRamWf : d.prgRam.wf = true
  prgRamWithin : d.prgRam.within prgRamSize = true

/-- Under the stack policy in force `n` pushes raise no fatal error (R64). -/
def State.canPush (s : State) (n : Nat) : Prop := s.params.stackPolicy = .wrap ∨ n ≤ s.sp.toNat

/-- Under the stack policy in force `n` pops raise no fatal error (R64). -/
def State.canPop (s : State) (n : Nat) : Prop := s.params.stackPolicy = .wrap ∨ s.sp.toNat + n ≤ 255

/-- The machine at a step boundary where a CPU step may begin (R384, R386). -/
def State.ready (s : State) : Prop := s.halted = none ∧ s.apuOwed = 0

/-- `s` with everything a bus read may change taken from `u`: the audio unit, the environment's answers, the record of
outputs and the count of free values (R67). -/
def State.withReads (s u : State) : State :=
  { s with apu := u.apu, portInputs := u.portInputs, outputs := u.outputs, draws := u.draws }

/-- `t` is `s` after bus reads: nothing else differs. -/
def ReadsOnly (s t : State) : Prop := t = s.withReads t

/-- `s` with everything a bus write may change taken from `u`, but for the cycles of a DMA (R54, R67). -/
def State.withBus (s u : State) : State := { s.withReads u with ram := u.ram, cart := u.cart }

/-- `s` after a CPU step of `n` cycles, all of them owed to the audio unit (R384, R386, R394). -/
def State.counted (s : State) (n : Nat) : State :=
  { s with cycles := s.cycles + n, apuOwed := n, stall := 0, extraCycles := 0 }

/-- The cell behind a bus address below 0x8000: RAM mirrors share one (R55). -/
def cellOf (addr : Word) : Nat := if addr.toNat < 0x2000 then addr.toNat % 2048 else addr.toNat

/-- Every byte of memory reads in `t` as in `s`. -/
def SameMemory (s t : State) : Prop := ∀ addr, t.peek addr = s.peek addr

/-- Of all memory only the bytes at the addresses `as` (and their mirrors) may read differently in `t`. -/
def ChangedOnlyAt (as : List Word) (s t : State) : Prop :=
  ∀ addr, (∀ a ∈ as, cellOf addr ≠ cellOf a) → t.peek addr = s.peek addr

/-- Memory after a store of byte `v` at bus address `a`. RAM and battery RAM hold it; every other byte of RAM and battery RAM
reads as before; no ROM byte changes; and what the program window shows changes only with a store to a switchable board's
registers (R54, R78, R81, R82). -/
structure StoredAt (a : Word) (v : Byte) (s t : State) : Prop where
  ram : a.toNat < 0x2000 → t.peek a = some v
  prgRam : 0x6000 ≤ a.toNat → a.toNat < 0x8000 → s.cart.hasPrgRam = true → t.peek a = some v
  others : ∀ addr : Word, addr.toNat < 0x8000 → cellOf addr ≠ cellOf a → t.peek addr = s.peek addr
  rom : t.cart.prg = s.cart.prg
  window : a.toNat < 0x8000 ∨ s.cart.variant = .fixedBank →
    ∀ addr : Word, 0x8000 ≤ addr.toNat → t.peek addr = s.peek addr

/-- An operand as an instruction sees it: its value, whether its address crossed a page, and the state after the bus reads. -/
structure Operand where
  value : Byte
  crossed : Bool
  state : State

/-- The operand of an Immediate form (R115). -/
def immediateOperand (imm : Byte) (s : State) : Operand := { value := imm, crossed := false, state := s }

/-- The byte read at the effective address (R112 steps 5 and 6). -/
def memoryOperand (mode : State → Resolved) (s : State) : Operand :=
  let r := mode s
  let m := busRead r.ea r.state
  { value := m.1, crossed := r.crossed, state := m.2 }

/-- A form that reads its operand and writes no memory. -/
structure ReadForm where
  instr : Instr
  length : Nat
  cycles : Nat
  /-- The row's `page_cross_penalty`. -/
  penalty : Bool
  operand : State → Operand

/-- The operand, read after `PC` has moved past the instruction. -/
def ReadForm.read (f : ReadForm) (s : State) : Operand := f.operand (s.advance f.length)

/-- The cycles of the step (R394). -/
def ReadForm.count (f : ReadForm) (s : State) : Nat :=
  f.cycles + (if f.penalty = true ∧ (f.read s).crossed = true then 1 else 0) + s.extraCycles + s.stall

/-- `s` after a step of this form that leaves the registers and flags alone. -/
def ReadForm.after (f : ReadForm) (s : State) : State :=
  ({ s with pc := s.pc + BitVec.ofNat 16 f.length }.withReads (f.read s).state).counted (f.count s)

/-- A form that stores at its effective address, or reads, modifies and stores there. -/
structure MemoryForm where
  instr : Instr
  length : Nat
  cycles : Nat
  mode : State → Resolved

/-- The address stored to, resolved after `PC` has moved past the instruction. -/
def MemoryForm.address (f : MemoryForm) (s : State) : Word := (f.mode (s.advance f.length)).ea

/-- The byte a modifying form reads there. -/
def MemoryForm.read (f : MemoryForm) (s : State) : Operand := memoryOperand f.mode (s.advance f.length)

/-- `s` after the bus write of `v` and the end of the step: `t` is the state before the write (R394). -/
def MemoryForm.finished (f : MemoryForm) (v : Byte) (t s : State) : State :=
  let w := busWrite (f.address s) v t
  ({ s with pc := s.pc + BitVec.ofNat 16 f.length }.withBus w).counted (f.cycles + w.extraCycles + s.stall)

/-- `s` after this form stores `v`: one write, no read of the address. -/
def MemoryForm.stored (f : MemoryForm) (v : Byte) (s : State) : State :=
  f.finished v (f.mode (s.advance f.length)).state s

/-- `s` after this form has read its byte and stored `v` over it, registers and flags left alone: one read, one write. -/
def MemoryForm.modified (f : MemoryForm) (v : Byte) (s : State) : State := f.finished v (f.read s).state s

/-- The step of instruction `i` from `s` completes in `t`, and every byte of memory reads as before. -/
def CompletesReading (i : Instr) (s t : State) : Prop := exec i s = .next t ∧ SameMemory s t

/-- The step of instruction `i` from `s` completes in `t`, and of memory only a store of `v` at `a` shows. -/
def CompletesStoring (i : Instr) (a : Word) (v : Byte) (s t : State) : Prop := exec i s = .next t ∧ StoredAt a v s t

/-- Z and N as numbers: Z says that the byte is 0, N that it is at least 128 (R8). -/
def Flags.withZN (f : Flags) (v : Byte) : Flags := { f with z := decide (v.toNat = 0), n := decide (128 ≤ v.toNat) }

/-- The flags after the comparison of `r` with `m` (R183). -/
def Flags.compared (f : Flags) (r m : Byte) : Flags :=
  { f with c := decide (m.toNat ≤ r.toNat), z := decide (r = m), n := decide (128 ≤ (r - m).toNat) }

/-- The sum an addition makes: 0 to 511 (R181). -/
def sumOf (a m : Byte) (c : Bool) : Nat := a.toNat + m.toNat + (if c then 1 else 0)

/-- The sum's low byte. -/
def sumByte (a m : Byte) (c : Bool) : Byte := BitVec.ofNat 8 (sumOf a m c)

/-- The flags after adding `m` and the carry to `a`: C is bit 8 of the sum, V says that the two operands share a sign which the
result does not have (R181). -/
def Flags.added (f : Flags) (a m : Byte) : Flags :=
  { f with
    c := decide (255 < sumOf a m f.c)
    v := a.getLsbD 7 == m.getLsbD 7 && (sumByte a m f.c).getLsbD 7 != a.getLsbD 7 }.withZN (sumByte a m f.c)

/-- The status byte as a number: N V 1 B D I Z C, from bit 7 to bit 0, with `b4` in place of B (R24). -/
def statusOf (b4 : Bool) (f : Flags) : Byte :=
  BitVec.ofNat 8 (128 * f.n.toNat + 64 * f.v.toNat + 32 + 16 * b4.toNat + 8 * f.d.toNat + 4 * f.i.toNat + 2 * f.z.toNat +
    f.c.toNat)

/-- The seven flags a status byte holds, each its own bit, bit 5 ignored (R25). -/
def flagsOf (v : Byte) : Flags :=
  { c := v.getLsbD 0, z := v.getLsbD 1, i := v.getLsbD 2, d := v.getLsbD 3, b := v.getLsbD 4, v := v.getLsbD 6
    n := v.getLsbD 7 }

/-- The stack byte that the k-th pop from `s` reads, k from 1 on: page 1, wrapping within it (R22, R63, R64). -/
def State.stackByte (s : State) (k : Nat) : Byte := s.ram.read (256 + (s.sp.toNat + k) % 256)

/-- RAM `m` after pushing the bytes in order, the first at stack pointer `sp` (R22, R62, R64). -/
def pushedRam (m : Memory) (sp : Byte) (bytes : List Byte) : Memory :=
  match bytes with
  | [] => m
  | v :: rest => pushedRam (m.write (256 + sp.toNat) v) (sp - 1) rest

/-- The bus addresses of `n` bytes pushed from stack pointer `sp` on. -/
def pushedAt (sp : Byte) (n : Nat) : List Word :=
  match n with
  | 0 => []
  | n + 1 => stackAddr sp :: pushedAt (sp - 1) n

/-- `s` halted by an exhausted stack, its registers recorded (R300, R305). -/
def State.exhausted (s : State) : State :=
  { s with
    halted := some { error := .stackExhaustion, pc := s.pc, a := s.a, x := s.x, y := s.y, sp := s.sp
                     p := statusOf s.flags.b s.flags } }

/-- A length counter after a clock: one less unless it is held or 0 (R354). -/
def dropLength (halt : Bool) (n : BitVec 8) : BitVec 8 := BitVec.ofNat 8 (if halt = true then n.toNat else n.toNat - 1)

/-- The audio unit after its envelopes and the linear counter are clocked (R350, R354). -/
def Apu.withEnvelopes (u : Apu) : Apu :=
  { u with
    pulse1 := { u.pulse1 with env := u.pulse1.env.clock }
    pulse2 := { u.pulse2 with env := u.pulse2.env.clock }
    noise := { u.noise with env := u.noise.env.clock }
    tri := { u.tri with
      linear := if u.tri.linearReload = true then u.tri.linearReloadValue else BitVec.ofNat 7 (u.tri.linear.toNat - 1)
      linearReload := u.tri.linearReload && u.tri.control } }

/-- The audio unit after its sweeps and length counters are clocked (R351, R354). -/
def Apu.withSweepsAndLengths (u : Apu) : Apu :=
  { u with
    pulse1 := { u.pulse1.clockSweep true with length := dropLength u.pulse1.env.halt u.pulse1.length }
    pulse2 := { u.pulse2.clockSweep false with length := dropLength u.pulse2.env.halt u.pulse2.length }
    noise := { u.noise with length := dropLength u.noise.env.halt u.noise.length }
    tri := { u.tri with length := dropLength u.tri.control u.tri.length } }

/-- The volume of a channel with an envelope, 0 to 15 (R350). -/
def volumeOf (e : Envelope) : Nat := if e.constVol = true then e.vol.toNat else e.decay.toNat

/-- The period a sweep aims at; `first` says that `p` is pulse1, whose negative sweep subtracts one more (R351). -/
def sweepTargetOf (first : Bool) (p : Pulse) : Nat :=
  let n := p.timerPeriod.toNat
  let change := n / 2 ^ p.sweepShift.toNat
  if p.sweepNegate = false then n + change else if first = true then n - (change + 1) else n - change

/-- The output of a pulse channel, its duty rows written out (R348, R356). -/
def pulseOutput (first : Bool) (p : Pulse) : Nat :=
  let rows : List (List Nat) :=
    [[0, 1, 0, 0, 0, 0, 0, 0], [0, 1, 1, 0, 0, 0, 0, 0], [0, 1, 1, 1, 1, 0, 0, 0], [1, 0, 0, 1, 1, 1, 1, 1]]
  if p.length = 0 ∨ (rows.getD p.duty.toNat []).getD p.dutyPos.toNat 0 = 0 ∨ p.timerPeriod.toNat < 8 ∨
      0x7FF < sweepTargetOf first p then 0
  else volumeOf p.env

/-- The output of the triangle channel: down from 15 to 0 and up again (R348, R356). -/
def triangleOutput (t : Triangle) : Nat := if t.seqPos.toNat < 16 then 15 - t.seqPos.toNat else t.seqPos.toNat - 16

/-- The output of the noise channel (R356). -/
def noiseOutput (n : Noise) : Nat := if n.length = 0 ∨ n.lfsr.toNat % 2 = 1 then 0 else volumeOf n.env

/-- The exact value of the mixer (R357). -/
def exactMix (u : Apu) : ℚ :=
  let n := pulseOutput true u.pulse1 + pulseOutput false u.pulse2
  let m := 3 * triangleOutput u.tri + 2 * noiseOutput u.noise + u.dmc.level.toNat
  (if n = 0 then 0 else 95.52 / (8128 / (n : ℚ) + 100)) + (if m = 0 then 0 else 163.67 / (24329 / (m : ℚ) + 100))

/-- `y` is a filter stage's output for input `x` in units of 2^-32, rounded down (R359; the unit is log entry 10's). -/
def FilterRounds (k : FilterCoeffs) (m : FilterMem) (x y : Int) : Prop :=
  y * 2 ^ 32 ≤ k.b0 * x + k.b1 * m.xPrev - k.a1 * m.yPrev ∧
    k.b0 * x + k.b1 * m.xPrev - k.a1 * m.yPrev < (y + 1) * 2 ^ 32

/-- The coefficients are R359's to the nearest unit of 2^-32: of a high-pass stage, or of a low-pass stage, with cutoff `f`. -/
def FilterCoeffs.Near (k : FilterCoeffs) (highPass : Bool) (f : ℝ) : Prop :=
  let c : ℝ := 44100 / (Real.pi * f)
  let a : ℝ := 1 / (1 + c)
  let near (z : Int) (r : ℝ) : Prop := |(z : ℝ) - 2 ^ 32 * r| ≤ 1 / 2
  near k.b0 (if highPass = true then c * a else a) ∧ near k.b1 (if highPass = true then -c * a else a) ∧
    near k.a1 ((1 - c) * a)

/-- The flag D replaced. -/
def State.withD (s : State) (d : Bool) : State := { s with flags := { s.flags with d := d } }

/-- The forms of LDA (R150), in opcode order. -/
def ldaForms (imm : Byte) (zp : Byte) (w : Word) : List ReadForm :=
    [ ⟨.ldaIndexedIndirect zp, 2, 6, false, memoryOperand (indexedIndirect zp)⟩,
      ⟨.ldaZeroPage zp, 2, 3, false, memoryOperand (zeroPage zp)⟩,
      ⟨.ldaImmediate imm, 2, 2, false, immediateOperand imm⟩,
      ⟨.ldaAbsolute w, 3, 4, false, memoryOperand (absolute w)⟩,
      ⟨.ldaIndirectIndexed zp, 2, 5, true, memoryOperand (indirectIndexed zp)⟩,
      ⟨.ldaZeroPageX zp, 2, 4, false, memoryOperand (zeroPageX zp)⟩,
      ⟨.ldaAbsoluteY w, 3, 4, true, memoryOperand (absoluteY w)⟩,
      ⟨.ldaAbsoluteX w, 3, 4, true, memoryOperand (absoluteX w)⟩ ]

/-- The forms of LDX (R151), in opcode order. -/
def ldxForms (imm : Byte) (zp : Byte) (w : Word) : List ReadForm :=
    [ ⟨.ldxImmediate imm, 2, 2, false, immediateOperand imm⟩,
      ⟨.ldxZeroPage zp, 2, 3, false, memoryOperand (zeroPage zp)⟩,
      ⟨.ldxAbsolute w, 3, 4, false, memoryOperand (absolute w)⟩,
      ⟨.ldxZeroPageY zp, 2, 4, false, memoryOperand (zeroPageY zp)⟩,
      ⟨.ldxAbsoluteY w, 3, 4, true, memoryOperand (absoluteY w)⟩ ]

/-- The forms of LDY (R152), in opcode order. -/
def ldyForms (imm : Byte) (zp : Byte) (w : Word) : List ReadForm :=
    [ ⟨.ldyImmediate imm, 2, 2, false, immediateOperand imm⟩,
      ⟨.ldyZeroPage zp, 2, 3, false, memoryOperand (zeroPage zp)⟩,
      ⟨.ldyAbsolute w, 3, 4, false, memoryOperand (absolute w)⟩,
      ⟨.ldyZeroPageX zp, 2, 4, false, memoryOperand (zeroPageX zp)⟩,
      ⟨.ldyAbsoluteX w, 3, 4, true, memoryOperand (absoluteX w)⟩ ]

/-- The forms of ADC (R181), in opcode order. -/
def adcForms (imm : Byte) (zp : Byte) (w : Word) : List ReadForm :=
    [ ⟨.adcIndexedIndirect zp, 2, 6, false, memoryOperand (indexedIndirect zp)⟩,
      ⟨.adcZeroPage zp, 2, 3, false, memoryOperand (zeroPage zp)⟩,
      ⟨.adcImmediate imm, 2, 2, false, immediateOperand imm⟩,
      ⟨.adcAbsolute w, 3, 4, false, memoryOperand (absolute w)⟩,
      ⟨.adcIndirectIndexed zp, 2, 5, true, memoryOperand (indirectIndexed zp)⟩,
      ⟨.adcZeroPageX zp, 2, 4, false, memoryOperand (zeroPageX zp)⟩,
      ⟨.adcAbsoluteY w, 3, 4, true, memoryOperand (absoluteY w)⟩,
      ⟨.adcAbsoluteX w, 3, 4, true, memoryOperand (absoluteX w)⟩ ]

/-- The forms of SBC (R182, R275), in opcode order. -/
def sbcForms (imm : Byte) (zp : Byte) (w : Word) : List ReadForm :=
    [ ⟨.sbcIndexedIndirect zp, 2, 6, false, memoryOperand (indexedIndirect zp)⟩,
      ⟨.sbcZeroPage zp, 2, 3, false, memoryOperand (zeroPage zp)⟩,
      ⟨.sbcImmediate imm, 2, 2, false, immediateOperand imm⟩,
      ⟨.sbcImmediateEB imm, 2, 2, false, immediateOperand imm⟩,
      ⟨.sbcAbsolute w, 3, 4, false, memoryOperand (absolute w)⟩,
      ⟨.sbcIndirectIndexed zp, 2, 5, true, memoryOperand (indirectIndexed zp)⟩,
      ⟨.sbcZeroPageX zp, 2, 4, false, memoryOperand (zeroPageX zp)⟩,
      ⟨.sbcAbsoluteY w, 3, 4, true, memoryOperand (absoluteY w)⟩,
      ⟨.sbcAbsoluteX w, 3, 4, true, memoryOperand (absoluteX w)⟩ ]

/-- The forms of CMP (R183), in opcode order. -/
def cmpForms (imm : Byte) (zp : Byte) (w : Word) : List ReadForm :=
    [ ⟨.cmpIndexedIndirect zp, 2, 6, false, memoryOperand (indexedIndirect zp)⟩,
      ⟨.cmpZeroPage zp, 2, 3, false, memoryOperand (zeroPage zp)⟩,
      ⟨.cmpImmediate imm, 2, 2, false, immediateOperand imm⟩,
      ⟨.cmpAbsolute w, 3, 4, false, memoryOperand (absolute w)⟩,
      ⟨.cmpIndirectIndexed zp, 2, 5, true, memoryOperand (indirectIndexed zp)⟩,
      ⟨.cmpZeroPageX zp, 2, 4, false, memoryOperand (zeroPageX zp)⟩,
      ⟨.cmpAbsoluteY w, 3, 4, true, memoryOperand (absoluteY w)⟩,
      ⟨.cmpAbsoluteX w, 3, 4, true, memoryOperand (absoluteX w)⟩ ]

/-- The forms of CPX (R184), in opcode order. -/
def cpxForms (imm : Byte) (zp : Byte) (w : Word) : List ReadForm :=
    [ ⟨.cpxImmediate imm, 2, 2, false, immediateOperand imm⟩,
      ⟨.cpxZeroPage zp, 2, 3, false, memoryOperand (zeroPage zp)⟩,
      ⟨.cpxAbsolute w, 3, 4, false, memoryOperand (absolute w)⟩ ]

/-- The forms of CPY (R185), in opcode order. -/
def cpyForms (imm : Byte) (zp : Byte) (w : Word) : List ReadForm :=
    [ ⟨.cpyImmediate imm, 2, 2, false, immediateOperand imm⟩,
      ⟨.cpyZeroPage zp, 2, 3, false, memoryOperand (zeroPage zp)⟩,
      ⟨.cpyAbsolute w, 3, 4, false, memoryOperand (absolute w)⟩ ]

/-- The forms of AND (R200), in opcode order. -/
def andForms (imm : Byte) (zp : Byte) (w : Word) : List ReadForm :=
    [ ⟨.andIndexedIndirect zp, 2, 6, false, memoryOperand (indexedIndirect zp)⟩,
      ⟨.andZeroPage zp, 2, 3, false, memoryOperand (zeroPage zp)⟩,
      ⟨.andImmediate imm, 2, 2, false, immediateOperand imm⟩,
      ⟨.andAbsolute w, 3, 4, false, memoryOperand (absolute w)⟩,
      ⟨.andIndirectIndexed zp, 2, 5, true, memoryOperand (indirectIndexed zp)⟩,
      ⟨.andZeroPageX zp, 2, 4, false, memoryOperand (zeroPageX zp)⟩,
      ⟨.andAbsoluteY w, 3, 4, true, memoryOperand (absoluteY w)⟩,
      ⟨.andAbsoluteX w, 3, 4, true, memoryOperand (absoluteX w)⟩ ]

/-- The forms of ORA (R201), in opcode order. -/
def oraForms (imm : Byte) (zp : Byte) (w : Word) : List ReadForm :=
    [ ⟨.oraIndexedIndirect zp, 2, 6, false, memoryOperand (indexedIndirect zp)⟩,
      ⟨.oraZeroPage zp, 2, 3, false, memoryOperand (zeroPage zp)⟩,
      ⟨.oraImmediate imm, 2, 2, false, immediateOperand imm⟩,
      ⟨.oraAbsolute w, 3, 4, false, memoryOperand (absolute w)⟩,
      ⟨.oraIndirectIndexed zp, 2, 5, true, memoryOperand (indirectIndexed zp)⟩,
      ⟨.oraZeroPageX zp, 2, 4, false, memoryOperand (zeroPageX zp)⟩,
      ⟨.oraAbsoluteY w, 3, 4, true, memoryOperand (absoluteY w)⟩,
      ⟨.oraAbsoluteX w, 3, 4, true, memoryOperand (absoluteX w)⟩ ]

/-- The forms of EOR (R202), in opcode order. -/
def eorForms (imm : Byte) (zp : Byte) (w : Word) : List ReadForm :=
    [ ⟨.eorIndexedIndirect zp, 2, 6, false, memoryOperand (indexedIndirect zp)⟩,
      ⟨.eorZeroPage zp, 2, 3, false, memoryOperand (zeroPage zp)⟩,
      ⟨.eorImmediate imm, 2, 2, false, immediateOperand imm⟩,
      ⟨.eorAbsolute w, 3, 4, false, memoryOperand (absolute w)⟩,
      ⟨.eorIndirectIndexed zp, 2, 5, true, memoryOperand (indirectIndexed zp)⟩,
      ⟨.eorZeroPageX zp, 2, 4, false, memoryOperand (zeroPageX zp)⟩,
      ⟨.eorAbsoluteY w, 3, 4, true, memoryOperand (absoluteY w)⟩,
      ⟨.eorAbsoluteX w, 3, 4, true, memoryOperand (absoluteX w)⟩ ]

/-- The forms of BIT (R203), in opcode order. -/
def bitForms (zp : Byte) (w : Word) : List ReadForm :=
    [ ⟨.bitZeroPage zp, 2, 3, false, memoryOperand (zeroPage zp)⟩,
      ⟨.bitAbsolute w, 3, 4, false, memoryOperand (absolute w)⟩ ]

/-- The forms of LAX (R266), in opcode order. -/
def laxForms (zp : Byte) (w : Word) : List ReadForm :=
    [ ⟨.laxIndexedIndirect zp, 2, 6, false, memoryOperand (indexedIndirect zp)⟩,
      ⟨.laxZeroPage zp, 2, 3, false, memoryOperand (zeroPage zp)⟩,
      ⟨.laxAbsolute w, 3, 4, false, memoryOperand (absolute w)⟩,
      ⟨.laxIndirectIndexed zp, 2, 5, true, memoryOperand (indirectIndexed zp)⟩,
      ⟨.laxZeroPageY zp, 2, 4, false, memoryOperand (zeroPageY zp)⟩,
      ⟨.laxAbsoluteY w, 3, 4, true, memoryOperand (absoluteY w)⟩ ]

/-- The reading forms of NOP (R274), in opcode order. -/
def nopReadForms (imm : Byte) (zp : Byte) (w : Word) : List ReadForm :=
    [ ⟨.nopZeroPage04 zp, 2, 3, false, memoryOperand (zeroPage zp)⟩,
      ⟨.nopAbsolute0C w, 3, 4, false, memoryOperand (absolute w)⟩,
      ⟨.nopZeroPageX14 zp, 2, 4, false, memoryOperand (zeroPageX zp)⟩,
      ⟨.nopAbsoluteX1C w, 3, 4, true, memoryOperand (absoluteX w)⟩,
      ⟨.nopZeroPageX34 zp, 2, 4, false, memoryOperand (zeroPageX zp)⟩,
      ⟨.nopAbsoluteX3C w, 3, 4, true, memoryOperand (absoluteX w)⟩,
      ⟨.nopZeroPage44 zp, 2, 3, false, memoryOperand (zeroPage zp)⟩,
      ⟨.nopZeroPageX54 zp, 2, 4, false, memoryOperand (zeroPageX zp)⟩,
      ⟨.nopAbsoluteX5C w, 3, 4, true, memoryOperand (absoluteX w)⟩ ] ++
    [ ⟨.nopZeroPage64 zp, 2, 3, false, memoryOperand (zeroPage zp)⟩,
      ⟨.nopZeroPageX74 zp, 2, 4, false, memoryOperand (zeroPageX zp)⟩,
      ⟨.nopAbsoluteX7C w, 3, 4, true, memoryOperand (absoluteX w)⟩,
      ⟨.nopImmediate80 imm, 2, 2, false, immediateOperand imm⟩,
      ⟨.nopImmediate82 imm, 2, 2, false, immediateOperand imm⟩,
      ⟨.nopImmediate89 imm, 2, 2, false, immediateOperand imm⟩,
      ⟨.nopImmediateC2 imm, 2, 2, false, immediateOperand imm⟩,
      ⟨.nopZeroPageXD4 zp, 2, 4, false, memoryOperand (zeroPageX zp)⟩,
      ⟨.nopAbsoluteXDC w, 3, 4, true, memoryOperand (absoluteX w)⟩ ] ++
    [ ⟨.nopImmediateE2 imm, 2, 2, false, immediateOperand imm⟩,
      ⟨.nopZeroPageXF4 zp, 2, 4, false, memoryOperand (zeroPageX zp)⟩,
      ⟨.nopAbsoluteXFC w, 3, 4, true, memoryOperand (absoluteX w)⟩ ]

/-- The undocumented NOPs of one byte (R274). -/
def nopImpliedForms : List Instr :=
    [ .nopImplied1A,
      .nopImplied3A,
      .nopImplied5A,
      .nopImplied7A,
      .nopImpliedDA,
      .nopImpliedFA ]

/-- The forms of STA (R153), in opcode order. -/
def staForms (zp : Byte) (w : Word) : List MemoryForm :=
    [ ⟨.staIndexedIndirect zp, 2, 6, indexedIndirect zp⟩,
      ⟨.staZeroPage zp, 2, 3, zeroPage zp⟩,
      ⟨.staAbsolute w, 3, 4, absolute w⟩,
      ⟨.staIndirectIndexed zp, 2, 6, indirectIndexed zp⟩,
      ⟨.staZeroPageX zp, 2, 4, zeroPageX zp⟩,
      ⟨.staAbsoluteY w, 3, 5, absoluteY w⟩,
      ⟨.staAbsoluteX w, 3, 5, absoluteX w⟩ ]

/-- The forms of STX (R154), in opcode order. -/
def stxForms (zp : Byte) (w : Word) : List MemoryForm :=
    [ ⟨.stxZeroPage zp, 2, 3, zeroPage zp⟩,
      ⟨.stxAbsolute w, 3, 4, absolute w⟩,
      ⟨.stxZeroPageY zp, 2, 4, zeroPageY zp⟩ ]

/-- The forms of STY (R155), in opcode order. -/
def styForms (zp : Byte) (w : Word) : List MemoryForm :=
    [ ⟨.styZeroPage zp, 2, 3, zeroPage zp⟩,
      ⟨.styAbsolute w, 3, 4, absolute w⟩,
      ⟨.styZeroPageX zp, 2, 4, zeroPageX zp⟩ ]

/-- The forms of SAX (R267), in opcode order. -/
def saxForms (zp : Byte) (w : Word) : List MemoryForm :=
    [ ⟨.saxIndexedIndirect zp, 2, 6, indexedIndirect zp⟩,
      ⟨.saxZeroPage zp, 2, 3, zeroPage zp⟩,
      ⟨.saxAbsolute w, 3, 4, absolute w⟩,
      ⟨.saxZeroPageY zp, 2, 4, zeroPageY zp⟩ ]

/-- The forms of INC (R186), in opcode order. -/
def incForms (zp : Byte) (w : Word) : List MemoryForm :=
    [ ⟨.incZeroPage zp, 2, 5, zeroPage zp⟩,
      ⟨.incAbsolute w, 3, 6, absolute w⟩,
      ⟨.incZeroPageX zp, 2, 6, zeroPageX zp⟩,
      ⟨.incAbsoluteX w, 3, 7, absoluteX w⟩ ]

/-- The forms of DEC (R187), in opcode order. -/
def decForms (zp : Byte) (w : Word) : List MemoryForm :=
    [ ⟨.decZeroPage zp, 2, 5, zeroPage zp⟩,
      ⟨.decAbsolute w, 3, 6, absolute w⟩,
      ⟨.decZeroPageX zp, 2, 6, zeroPageX zp⟩,
      ⟨.decAbsoluteX w, 3, 7, absoluteX w⟩ ]

/-- The memory forms of ASL (R204), in opcode order. -/
def aslForms (zp : Byte) (w : Word) : List MemoryForm :=
    [ ⟨.aslZeroPage zp, 2, 5, zeroPage zp⟩,
      ⟨.aslAbsolute w, 3, 6, absolute w⟩,
      ⟨.aslZeroPageX zp, 2, 6, zeroPageX zp⟩,
      ⟨.aslAbsoluteX w, 3, 7, absoluteX w⟩ ]

/-- The memory forms of LSR (R205), in opcode order. -/
def lsrForms (zp : Byte) (w : Word) : List MemoryForm :=
    [ ⟨.lsrZeroPage zp, 2, 5, zeroPage zp⟩,
      ⟨.lsrAbsolute w, 3, 6, absolute w⟩,
      ⟨.lsrZeroPageX zp, 2, 6, zeroPageX zp⟩,
      ⟨.lsrAbsoluteX w, 3, 7, absoluteX w⟩ ]

/-- The memory forms of ROL (R206), in opcode order. -/
def rolForms (zp : Byte) (w : Word) : List MemoryForm :=
    [ ⟨.rolZeroPage zp, 2, 5, zeroPage zp⟩,
      ⟨.rolAbsolute w, 3, 6, absolute w⟩,
      ⟨.rolZeroPageX zp, 2, 6, zeroPageX zp⟩,
      ⟨.rolAbsoluteX w, 3, 7, absoluteX w⟩ ]

/-- The memory forms of ROR (R207), in opcode order. -/
def rorForms (zp : Byte) (w : Word) : List MemoryForm :=
    [ ⟨.rorZeroPage zp, 2, 5, zeroPage zp⟩,
      ⟨.rorAbsolute w, 3, 6, absolute w⟩,
      ⟨.rorZeroPageX zp, 2, 6, zeroPageX zp⟩,
      ⟨.rorAbsoluteX w, 3, 7, absoluteX w⟩ ]

/-- The forms of DCP (R268), in opcode order. -/
def dcpForms (zp : Byte) (w : Word) : List MemoryForm :=
    [ ⟨.dcpIndexedIndirect zp, 2, 8, indexedIndirect zp⟩,
      ⟨.dcpZeroPage zp, 2, 5, zeroPage zp⟩,
      ⟨.dcpAbsolute w, 3, 6, absolute w⟩,
      ⟨.dcpIndirectIndexed zp, 2, 8, indirectIndexed zp⟩,
      ⟨.dcpZeroPageX zp, 2, 6, zeroPageX zp⟩,
      ⟨.dcpAbsoluteY w, 3, 7, absoluteY w⟩,
      ⟨.dcpAbsoluteX w, 3, 7, absoluteX w⟩ ]

/-- The forms of ISB (R269), in opcode order. -/
def isbForms (zp : Byte) (w : Word) : List MemoryForm :=
    [ ⟨.isbIndexedIndirect zp, 2, 8, indexedIndirect zp⟩,
      ⟨.isbZeroPage zp, 2, 5, zeroPage zp⟩,
      ⟨.isbAbsolute w, 3, 6, absolute w⟩,
      ⟨.isbIndirectIndexed zp, 2, 8, indirectIndexed zp⟩,
      ⟨.isbZeroPageX zp, 2, 6, zeroPageX zp⟩,
      ⟨.isbAbsoluteY w, 3, 7, absoluteY w⟩,
      ⟨.isbAbsoluteX w, 3, 7, absoluteX w⟩ ]

/-- The forms of SLO (R270), in opcode order. -/
def sloForms (zp : Byte) (w : Word) : List MemoryForm :=
    [ ⟨.sloIndexedIndirect zp, 2, 8, indexedIndirect zp⟩,
      ⟨.sloZeroPage zp, 2, 5, zeroPage zp⟩,
      ⟨.sloAbsolute w, 3, 6, absolute w⟩,
      ⟨.sloIndirectIndexed zp, 2, 8, indirectIndexed zp⟩,
      ⟨.sloZeroPageX zp, 2, 6, zeroPageX zp⟩,
      ⟨.sloAbsoluteY w, 3, 7, absoluteY w⟩,
      ⟨.sloAbsoluteX w, 3, 7, absoluteX w⟩ ]

/-- The forms of RLA (R271), in opcode order. -/
def rlaForms (zp : Byte) (w : Word) : List MemoryForm :=
    [ ⟨.rlaIndexedIndirect zp, 2, 8, indexedIndirect zp⟩,
      ⟨.rlaZeroPage zp, 2, 5, zeroPage zp⟩,
      ⟨.rlaAbsolute w, 3, 6, absolute w⟩,
      ⟨.rlaIndirectIndexed zp, 2, 8, indirectIndexed zp⟩,
      ⟨.rlaZeroPageX zp, 2, 6, zeroPageX zp⟩,
      ⟨.rlaAbsoluteY w, 3, 7, absoluteY w⟩,
      ⟨.rlaAbsoluteX w, 3, 7, absoluteX w⟩ ]

/-- The forms of SRE (R272), in opcode order. -/
def sreForms (zp : Byte) (w : Word) : List MemoryForm :=
    [ ⟨.sreIndexedIndirect zp, 2, 8, indexedIndirect zp⟩,
      ⟨.sreZeroPage zp, 2, 5, zeroPage zp⟩,
      ⟨.sreAbsolute w, 3, 6, absolute w⟩,
      ⟨.sreIndirectIndexed zp, 2, 8, indirectIndexed zp⟩,
      ⟨.sreZeroPageX zp, 2, 6, zeroPageX zp⟩,
      ⟨.sreAbsoluteY w, 3, 7, absoluteY w⟩,
      ⟨.sreAbsoluteX w, 3, 7, absoluteX w⟩ ]

/-- The forms of RRA (R273), in opcode order. -/
def rraForms (zp : Byte) (w : Word) : List MemoryForm :=
    [ ⟨.rraIndexedIndirect zp, 2, 8, indexedIndirect zp⟩,
      ⟨.rraZeroPage zp, 2, 5, zeroPage zp⟩,
      ⟨.rraAbsolute w, 3, 6, absolute w⟩,
      ⟨.rraIndirectIndexed zp, 2, 8, indirectIndexed zp⟩,
      ⟨.rraZeroPageX zp, 2, 6, zeroPageX zp⟩,
      ⟨.rraAbsoluteY w, 3, 7, absoluteY w⟩,
      ⟨.rraAbsoluteX w, 3, 7, absoluteX w⟩ ]

end Sys2Proof.Machine
end

