-- ==== Sys2Proof/Certificates/Slice0/Obligations.lean ====
section
/-! DEFINITION. The statements for the provers, about the machine and no program. Forms, frames and the terms they use stand in
Safety.lean. -/

open Sys2Proof Sys2Proof.Machine

/-! ## Encoding -/

/-- Decoding the bytes of a well-formed instruction gives it back, whatever follows them (R110, R128). -/
def Obligations.DecodeEncode : Prop :=
  ∀ (i : Instr) (rest : List Byte), i.wellFormed = true → decode (encode i ++ rest) = .ok (i, rest)

/-- Whatever decodes is the encoding of a well-formed instruction, so no two byte strings mean one instruction; and decoding is
total: three bytes decode whatever the opcode, which alone fixes the instruction's length, 1 to 3 bytes (R110, R128). -/
def Obligations.EncodeDecode : Prop :=
  (∀ (bytes rest : List Byte) (i : Instr),
    decode bytes = .ok (i, rest) → i.wellFormed = true ∧ encode i ++ rest = bytes) ∧
  ∀ (op l h : Byte) (rest : List Byte), ∃ i, i.opcode = op ∧ i.length = (instrOf op 0 0).length ∧ 1 ≤ i.length ∧
    i.length ≤ 3 ∧ decode (op :: l :: h :: rest) = .ok (i, (op :: l :: h :: rest).drop i.length)

/-- Words written out from R129 to R131 decode to the instruction they stand for. -/
def Obligations.DecodeWords : Prop :=
  ∀ (l h : Byte) (rest : List Byte),
    decode (0xA9 :: l :: rest) = .ok (.ldaImmediate l, rest) ∧
    decode (0x96 :: l :: rest) = .ok (.stxZeroPageY l, rest) ∧
    decode (0x9A :: rest) = .ok (.txs, rest) ∧
    decode (0x71 :: l :: rest) = .ok (.adcIndirectIndexed l, rest) ∧
    decode (0x7E :: l :: h :: rest) = .ok (.rorAbsoluteX (h ++ l), rest) ∧
    decode (0x6C :: l :: h :: rest) = .ok (.jmpIndirect (h ++ l), rest) ∧
    decode (0x40 :: rest) = .ok (.rti, rest) ∧
    decode (0xE3 :: l :: rest) = .ok (.isbIndexedIndirect l, rest) ∧
    decode (0x02 :: rest) = .ok (.unsupported 0x02, rest)

/-! ## The step -/

/-- When the bytes read at the program counter decode to an instruction the machine supports, a step at that boundary is that
instruction's meaning and then the APU steps it owes; bytes that storage answers are read without a side effect. `u` is the
machine after the boundary's events, `v` after the fetch (R112, R307, R384, R386). -/
def Obligations.StepRunsDecoded : Prop :=
  ∀ (s u v : State) (i : Instr) (bytes : List Byte),
    s.ready → deliverBoundary s = u → u.halted = none → u.nmiPending = false → (u.irqLine && !u.flags.i) = false →
    decode bytes = .ok (i, []) → u.supports i = true → fetchBytes u.pc i.length u = (bytes, v) →
    (step s = match exec i v with
      | .next t => .next (drainApu t)
      | .fault r => .fault r
      | .refused r => .refused r) ∧
    ((∀ k : Nat, k < i.length → (u.peek (u.pc + BitVec.ofNat 16 k)).isSome = true) → v = u)

/-- An opcode with no handler halts the machine: an `unsupported` always, an undocumented one where `UNDOC_SET` is empty. The
reason, the opcode byte and the registers are recorded and nothing else changes (R131, R265, R300, R301). -/
def Obligations.UnsupportedHalts : Prop :=
  ∀ (i : Instr) (s : State), i.status = .unsupported ∨ (i.status = .undocumented ∧ s.params.undocSet = false) →
    exec i s = .next { s with
      halted := some { error := .unsupportedOpcode i.opcode, pc := s.pc, a := s.a, x := s.x, y := s.y, sp := s.sp
                       p := statusOf s.flags.b s.flags } }

/-- At a boundary a pending NMI is taken first, then an IRQ that `I` does not mask, else an instruction (R307, R310, R311). That one
step is the chosen CPU step and the APU steps it owes is the model's reading of R386 (log entry 7). -/
def Obligations.Arbitration : Prop :=
  ∀ s u : State, s.ready → deliverBoundary s = u → u.halted = none →
    (u.nmiPending = true → step s = .next (drainApu (nmiEntry u))) ∧
    (u.nmiPending = false → (u.apu.frameIrq || u.apu.dmcIrq || u.extIrq) = true → u.flags.i = false →
      step s = .next (drainApu (irqEntry u))) ∧
    (u.nmiPending = false → (u.apu.frameIrq || u.apu.dmcIrq || u.extIrq) = false ∨ u.flags.i = true →
      step s = instrStep u)

/-- The APU steps owed, which every pass of the loop takes: they change the audio unit, the stall, and what a bus read may change,
and nothing else; they are as many as were owed, and every byte of memory reads as before. Where steps are still owed a step takes
just them (R360, R386; the pass as one step is log entry 7). -/
def Obligations.OwedFirst : Prop :=
  ∀ s : State, let t := drainApu s
    t = { s with
      apu := t.apu, stall := t.stall, apuOwed := 0
      portInputs := t.portInputs, outputs := t.outputs, draws := t.draws } ∧
    t.apu.apuCycle = s.apu.apuCycle + s.apuOwed ∧ s.stall ≤ t.stall ∧ SameMemory s t ∧
    (s.halted = none → s.apuOwed ≠ 0 → step s = .next t)

/-- A halted machine is stuck until a boundary brings Reset, and Reset revives it (R300, R384). -/
def Obligations.HaltedStuck : Prop :=
  ∀ (s : State) (r : HaltRecord), s.halted = some r →
    ((∀ events ∈ s.boundaries.head?, Event.reset ∉ events) → step s = .fault (.halted r)) ∧
    (∀ events ∈ s.boundaries.head?, Event.reset ∈ events → (deliverBoundary s).halted = none)

/-! ## Whole-machine rules -/

/-- The invariant holds right after reset, and after power-on and reset with every deposit that the loader may make. What R36 leaves
open in State.reset is the model's choice (log entries 1, 2, 3). -/
def Obligations.InvAtReset : Prop :=
  State.reset.Inv ∧
  ∀ (d : Loaded) (params : Params) (a x y : Byte) (ram : Memory),
    d.Valid → ram.wf = true → ram.within 2048 = true → (launch d params a x y ram).Inv

/-- Every step keeps the invariant, from every state that has it (R5, R29, R30, R82, R333 to R335, R386). -/
def Obligations.InvKept : Prop := ∀ s t : State, s.Inv → step s = .next t → t.Inv

/-- No step changes the program ROM, what the loader fixed of the cartridge, or the launch parameters (R78, R82, R5). -/
def Obligations.RomFixed : Prop :=
  ∀ s t : State, step s = .next t →
    t.cart.prg = s.cart.prg ∧ t.cart.prgLen = s.cart.prgLen ∧ t.cart.nPrgBanks = s.cart.nPrgBanks ∧
    t.cart.variant = s.cart.variant ∧ t.cart.hasPrgRam = s.cart.hasPrgRam ∧ t.cart.chrLen = s.cart.chrLen ∧
    t.cart.chrIsRam = s.cart.chrIsRam ∧ (s.cart.chrIsRam = false → t.cart.chr = s.cart.chr) ∧ t.params = s.params

/-- A step with no Reset at its boundary takes exactly one APU step per CPU cycle it counts, and at least two cycles unless it
halts the machine (R384, R386). -/
def Obligations.ApuKeepsPace : Prop :=
  ∀ s t : State, s.Inv → (∀ events ∈ s.boundaries.head?, Event.reset ∉ events) → step s = .next t →
    s.cycles + t.apu.apuCycle = t.cycles + s.apu.apuCycle ∧ (t.halted = none → s.cycles + 2 ≤ t.cycles)

/-! ## Reset -/

/-- Reset: `PC` from the vector, `SP` = 0xFD, `I` set and the other flags clear, the pending NMI, the halt, the stall and the cycle
count cleared, and nothing else touched (R380). -/
def Obligations.ResetResult : Prop :=
  ∀ (s : State) (l h : Byte), s.peek 0xFFFC = some l → s.peek 0xFFFD = some h →
    resetProcedure s = { s with
      pc := word h l, sp := 0xFD
      flags := { c := false, z := false, i := true, d := false, b := false, v := false, n := false }
      nmiPending := false, halted := none, stall := 0, cycles := 0 }

/-- After power-on and the first reset (R5, R36, R336, R381): every field, for every deposit of the loader and all unspecified
contents; the environment's part is empty (log entries 4, 5, 6, 11). `State.reset` is that machine with the model's own blank
cartridge and zeros (its choice, log entries 1, 2, 3). -/
def Obligations.PowerOn : Prop :=
  (∀ (d : Loaded) (params : Params) (a x y : Byte) (ram : Memory) (l h : Byte),
    let cart : Cart :=
      { variant := d.variant, prgLen := d.prgLen, prg := d.prg, nPrgBanks := d.prgLen / 16384, chrLen := d.chrLen
        chr := d.chr, chrIsRam := d.chrIsRam, hasPrgRam := d.hasPrgRam, prgRam := d.prgRam, mirror := d.mirror
        control := 0x0C, chrBank0 := 0, chrBank1 := 0, prgBank := 0, shift := 0, count := 0 }
    let envelope : Envelope := { halt := false, constVol := false, vol := 0, start := false, divider := 0, decay := 0 }
    let pulse : Pulse :=
      { enabled := false, duty := 0, dutyPos := 0, timerPeriod := 0, timerCounter := 0, length := 0, env := envelope
        sweepEnable := false, sweepPeriod := 0, sweepNegate := false, sweepShift := 0, sweepReload := false
        sweepDivider := 0 }
    cart.cpuRead 0xFFFC = some l → cart.cpuRead 0xFFFD = some h →
    launch d params a x y ram =
      { a := a, x := x, y := y, sp := 0xFD, pc := word h l
        flags := { c := false, z := false, i := true, d := false, b := false, v := false, n := false }
        nmiPending := false, halted := none, stall := 0, cycles := 0, apuOwed := 0, extraCycles := 0, extIrq := false
        ram := ram, cart := cart, params := params
        apu :=
          { pulse1 := pulse, pulse2 := pulse
            tri :=
              { enabled := false, timerPeriod := 0, timerCounter := 0, seqPos := 0, length := 0, control := false
                linearReloadValue := 0, linear := 0, linearReload := false }
            noise :=
              { enabled := false, mode := false, timerPeriod := 0, timerCounter := 0, lfsr := 1, length := 0
                env := envelope }
            dmc :=
              { irqEnable := false, loop := false, timerPeriod := 213, timerCounter := 0, level := 0, sampleAddr := 0
                sampleLen := 0, curAddr := 0, bytesLeft := 0, shift := 0, bitsLeft := 0 }
            frameMode := false, frameInhibit := false, frameStep := 0, frameIrq := false, dmcIrq := false, apuCycle := 0
            hp1 := { xPrev := 0, yPrev := 0 }, hp2 := { xPrev := 0, yPrev := 0 }, lp := { xPrev := 0, yPrev := 0 } }
        boundaries := [], portInputs := [], outputs := [], draws := 0 }) ∧
  State.reset = launch Loaded.blank { stackPolicy := .wrap, undocSet := true } 0 0 0 []

/-! ## Interrupts -/

/-- NMI and IRQ entry: `PC` high, `PC` low and the status byte with bit 4 clear are pushed, `I` is set, `PC` comes from the vector,
7 cycles; NMI entry clears its latch, IRQ entry leaves every source as it is; of memory only the three stack bytes change
(R309, R310, R311). -/
def Obligations.InterruptEntry : Prop :=
  ∀ s : State, s.Inv → s.canPush 3 →
    let ram := pushedRam s.ram s.sp [hi s.pc, lo s.pc, statusOf false s.flags]
    (∀ l h : Byte, s.peek 0xFFFA = some l → s.peek 0xFFFB = some h →
      nmiEntry s = { s with
        nmiPending := false, pc := word h l, sp := s.sp - 3, flags := { s.flags with i := true }
        ram := ram }.counted (7 + s.extraCycles + s.stall) ∧ ChangedOnlyAt (pushedAt s.sp 3) s (nmiEntry s)) ∧
    (∀ l h : Byte, s.peek 0xFFFE = some l → s.peek 0xFFFF = some h →
      irqEntry s = { s with
        pc := word h l, sp := s.sp - 3, flags := { s.flags with i := true }
        ram := ram }.counted (7 + s.extraCycles + s.stall) ∧ ChangedOnlyAt (pushedAt s.sp 3) s (irqEntry s))

/-- RTI undoes an interrupt entry: run on the state an NMI entry leaves, it restores `PC`, `SP` and every flag but the unobservable
`B`, which the pushed byte's bit 4 clears (R24, R310, R313). -/
def Obligations.InterruptReturn : Prop :=
  ∀ s : State, s.Inv → s.canPush 3 →
    ∃ t, exec .rti (nmiEntry s) = .next t ∧ t.pc = s.pc ∧ t.sp = s.sp ∧ t.flags = { s.flags with b := false } ∧
      t.a = s.a ∧ t.x = s.x ∧ t.y = s.y ∧ t.halted = s.halted ∧ t.cart = s.cart ∧ t.apu = s.apu ∧
      ChangedOnlyAt (pushedAt s.sp 3) s t

/-- What the environment's events do. Reset is the reset procedure, on a running machine and on a halted one, and on a halted machine
no other event does anything. On a machine that is not halted: an NMI request is latched, the external line takes its level,
the scanline signal does nothing, and the graphics unit reads and writes graphics memory and asks for nametable slots through the
cartridge (R37, R76, R86, R87, R90, R306, R308, R380, R384). The events as data and the record of answers are the model's choice (log entries 6, 11). -/
def Obligations.EnvironmentEvents : Prop :=
  (∀ s : State, deliverEvent s .reset = resetProcedure s) ∧
  (∀ (s : State) (e : Event), s.halted ≠ none → e ≠ .reset → deliverEvent s e = s) ∧
  ∀ (s : State) (level : Bool) (a : BitVec 13) (v : Byte) (i : Fin 4), s.halted = none →
    let c := s.cart
    let high := 4096 ≤ a.toNat
    let bank :=
      if c.control.toNat / 16 = 0 then (if high then c.chrBank0.toNat / 2 * 2 + 1 else c.chrBank0.toNat / 2 * 2)
      else if high then c.chrBank1.toNat
      else c.chrBank0.toNat
    let index :=
      if c.variant = .fixedBank then a.toNat % c.chrLen
      else (bank % max 1 (c.chrLen / 4096) * 4096 + a.toNat % 4096) % c.chrLen
    let slot : Nat :=
      match c.mirror with
      | .horizontal => [0, 0, 1, 1].getD i.val 0
      | .vertical => [0, 1, 0, 1].getD i.val 0
      | .singleScreen0 => 0
      | .singleScreen1 => 1
      | .fourScreen => i.val
    deliverEvent s .nmiRequest = { s with nmiPending := true } ∧
    deliverEvent s (.extIrq level) = { s with extIrq := level } ∧
    deliverEvent s .scanline = s ∧
    deliverEvent s (.chrRead a) = { s with outputs := .chrAnswer a (c.chr.read index) :: s.outputs } ∧
    deliverEvent s (.chrWrite a v) =
      (if c.chrIsRam = true then { s with cart := { c with chr := c.chr.write index v } } else s) ∧
    ∃ k : Fin 4, k.val = slot ∧ deliverEvent s (.nametable i) = { s with outputs := .nametableAnswer i k :: s.outputs }

/-! ## The bus -/

/-- A byte stored in RAM reads back through every mirror, every other cell reads as before, and the write changes nothing but RAM, a
read nothing at all (R55). -/
def Obligations.RamMirrors : Prop :=
  ∀ (s : State) (a b : Word) (v : Byte), s.Inv → a.toNat < 0x2000 → b.toNat < 0x2000 →
    busRead b (busWrite a v s) =
      ((if b.toNat % 2048 = a.toNat % 2048 then v else (busRead b s).1), busWrite a v s) ∧
    busWrite a v s = { s with ram := (busWrite a v s).ram } ∧ (busRead b s).2 = s

/-- What a read of each part of the bus returns and what it changes (R53, R56, R57, R59, R67, R77, R80, R345). `v` is the
environment's answer to a port read, `t` the state after it is taken: the next byte of the queue, or a free value where the queue is
empty. The queue of answers, the record and the counter of free values are the model's choice (log entries 4, 5, 11). -/
def Obligations.BusReads : Prop :=
  ∀ (s : State) (a : Word),
    (a.toNat < 0x2000 → busRead a s = (s.ram.read (a.toNat % 2048), s)) ∧
    (∀ (v : Byte) (t : State),
      (∃ rest, s.portInputs = v :: rest ∧ t = { s with portInputs := rest }) ∨
        (s.portInputs = [] ∧ v = Config.portByte s.draws ∧ t = { s with draws := s.draws + 1 }) →
      (0x2000 ≤ a.toNat → a.toNat < 0x4000 →
        busRead a s = (v, { t with outputs := .ppuRead (BitVec.ofNat 3 (a.toNat % 8)) v :: s.outputs })) ∧
      (a.toNat = 0x4016 → busRead a s = (v, { t with outputs := .controllerRead false v :: s.outputs })) ∧
      (a.toNat = 0x4017 → busRead a s = (v, { t with outputs := .controllerRead true v :: s.outputs }))) ∧
    (a.toNat = 0x4015 →
      busRead a s = (s.apu.statusByte, { s with apu := { s.apu with frameIrq := false } })) ∧
    ((0x4000 ≤ a.toNat ∧ a.toNat ≤ 0x4014) ∨ (0x4018 ≤ a.toNat ∧ a.toNat < 0x6000) ∨
        (0x6000 ≤ a.toNat ∧ a.toNat < 0x8000 ∧ s.cart.hasPrgRam = false) →
      busRead a s = (Config.openBus s.draws, { s with draws := s.draws + 1 })) ∧
    (0x6000 ≤ a.toNat → a.toNat < 0x8000 → s.cart.hasPrgRam = true →
      busRead a s = (s.cart.prgRam.read (a.toNat - 0x6000), s)) ∧
    (0x8000 ≤ a.toNat → (busRead a s).2 = s ∧ s.peek a = some (busRead a s).1)

/-- What a write to each part of the bus outside the audio registers changes (R54 to R57, R59, R78, R81, R92). The
record of what is delivered is the model's choice (log entry 11). -/
def Obligations.BusWrites : Prop :=
  ∀ (s : State) (a : Word) (v : Byte),
    (a.toNat < 0x2000 → busWrite a v s = { s with ram := s.ram.write (a.toNat % 2048) v }) ∧
    (0x2000 ≤ a.toNat → a.toNat < 0x4000 →
      busWrite a v s = { s with outputs := .ppuWrite (BitVec.ofNat 3 (a.toNat % 8)) v :: s.outputs }) ∧
    (a.toNat = 0x4016 → busWrite a v s = { s with outputs := .controllerStrobe v :: s.outputs }) ∧
    (a.toNat = 0x4009 ∨ a.toNat = 0x400D ∨ (0x4018 ≤ a.toNat ∧ a.toNat < 0x6000) → busWrite a v s = s) ∧
    (0x6000 ≤ a.toNat → a.toNat < 0x8000 →
      busWrite a v s = if s.cart.hasPrgRam = true then
        { s with cart := { s.cart with prgRam := s.cart.prgRam.write (a.toNat - 0x6000) v } } else s) ∧
    (0x8000 ≤ a.toNat → s.cart.variant = .fixedBank → busWrite a v s = s)

/-- Where the fixed-bank board's reads find their byte: program ROM modulo its length, battery RAM by offset, a free
value where there is no battery RAM (R77, R59; the counter of free values is the model's choice, log entry 4). -/
def Obligations.FixedBankReads : Prop :=
  ∀ (s : State) (a : Word), s.cart.variant = .fixedBank →
    (0x8000 ≤ a.toNat → busRead a s = (s.cart.prg.read ((a.toNat - 0x8000) % s.cart.prgLen), s)) ∧
    (0x6000 ≤ a.toNat → a.toNat < 0x8000 → s.cart.hasPrgRam = true →
      busRead a s = (s.cart.prgRam.read (a.toNat - 0x6000), s)) ∧
    (0x6000 ≤ a.toNat → a.toNat < 0x8000 → s.cart.hasPrgRam = false →
      busRead a s = (Config.openBus s.draws, { s with draws := s.draws + 1 }))

/-- The program windows of the switchable board, by program mode (R80, R84, R85). -/
def Obligations.SwitchableWindows : Prop :=
  ∀ (s : State) (a : Word), s.cart.variant = .switchable → 0x8000 ≤ a.toNat →
    let b := s.cart.prgBank.toNat % 16
    let mode := s.cart.control.toNat / 4 % 4
    let bank :=
      if a.toNat < 0xC000 then (if mode = 2 then 0 else if mode = 3 then b else b / 2 * 2)
      else if mode = 2 then b
      else if mode = 3 then s.cart.nPrgBanks - 1
      else b / 2 * 2 + 1
    busRead a s = (s.cart.prg.read ((bank % s.cart.nPrgBanks * 0x4000 + a.toNat % 0x4000) % s.cart.prgLen), s)

/-- The serial port: a write with bit 7 clear sets the port's lowest unclaimed bit to the byte's lowest bit, and the fifth such write
commits the port to the register that its address selects and clears the port; so five writes from a clear port commit the number
their lowest bits spell. A write with bit 7 set clears the port and forces program mode 3. `control` sets the mirroring (R82, R83,
R84, R88). -/
def Obligations.SerialPort : Prop :=
  ∀ s : State, s.cart.variant = .switchable →
    let mirrorOf (n : BitVec 5) : Mirroring :=
      if n.toNat % 4 = 0 then .singleScreen0 else if n.toNat % 4 = 1 then .singleScreen1
      else if n.toNat % 4 = 2 then .vertical else .horizontal
    let c := { s.cart with shift := 0, count := 0 }
    let committed (a : Word) (n : BitVec 5) : Cart :=
      if a.toNat < 0xA000 then { c with control := n, mirror := mirrorOf n }
      else if a.toNat < 0xC000 then { c with chrBank0 := n }
      else if a.toNat < 0xE000 then { c with chrBank1 := n }
      else { c with prgBank := n }
    (∀ (a : Word) (v : Byte), 0x8000 ≤ a.toNat → v.toNat < 128 →
      let n := s.cart.shift ||| BitVec.ofNat 5 (v.toNat % 2 * 2 ^ s.cart.count.val)
      busWrite a v s = { s with
        cart := if s.cart.count = 4 then committed a n else { s.cart with shift := n, count := s.cart.count + 1 } }) ∧
    (∀ (a1 a2 a3 a4 a5 : Word) (v1 v2 v3 v4 v5 : Byte),
      (∀ a ∈ [a1, a2, a3, a4, a5], 0x8000 ≤ a.toNat) → (∀ v ∈ [v1, v2, v3, v4, v5], v.toNat < 128) →
      s.cart.shift = 0 → s.cart.count = 0 →
      busWrite a5 v5 (busWrite a4 v4 (busWrite a3 v3 (busWrite a2 v2 (busWrite a1 v1 s)))) = { s with
        cart := committed a5 (BitVec.ofNat 5 (v1.toNat % 2 + 2 * (v2.toNat % 2) + 4 * (v3.toNat % 2) +
          8 * (v4.toNat % 2) + 16 * (v5.toNat % 2))) }) ∧
    (∀ (a : Word) (v : Byte), 0x8000 ≤ a.toNat → 128 ≤ v.toNat →
      busWrite a v s = { s with
        cart := { c with control := s.cart.control ||| 0x0C, mirror := mirrorOf (s.cart.control ||| 0x0C) } })

/-- `Read16Bug`: two reads, low byte first, the second within the page of the first, so that it is `Read16` but for a pointer ending
in 0xFF; two bytes that storage answers are read without a side effect (R66). -/
def Obligations.Read16Bug : Prop :=
  ∀ (s : State) (p : Word),
    let next : Word := BitVec.ofNat 16 (p.toNat / 256 * 256 + (p.toNat + 1) % 256)
    (let l := busRead p s
     let h := busRead next l.2
     read16Bug p s = (word h.1 l.1, h.2)) ∧
    (p.toNat % 256 ≠ 255 → read16Bug p s = read16 p s) ∧
    (∀ l h : Byte, s.peek p = some l → s.peek next = some h → read16Bug p s = (word h l, s))

/-- The sprite DMA: a write of `v` to 0x4014, by whatever instruction, reads the 256 bytes of page `v` through the bus in ascending
order, each with the side effect of its address (`t k` is the state before read `k`), delivers them and costs 513 cycles more, 514
when the cycle count is odd. So STA to 0x4014, with a page that storage answers, delivers page `A` and counts 4 cycles and those
(R58, R153, R394; the record is the model's choice, log entry 11). -/
def Obligations.SpriteDma : Prop :=
  (∀ (s : State) (v : Byte), ∃ t : Nat → State,
    let source (k : Nat) : Word := word v (BitVec.ofNat 8 k)
    t 0 = s ∧ (∀ k : Nat, k < 256 → t (k + 1) = (busRead (source k) (t k)).2) ∧
    busWrite 0x4014 v s = { t 256 with
      outputs := .spriteDma ((List.range 256).map fun k => (busRead (source k) (t k)).1) :: (t 256).outputs
      extraCycles := s.extraCycles + (if s.cycles % 2 = 1 then 514 else 513) }) ∧
  ∀ (s : State) (bytes : List Byte), bytes.length = 256 →
    (∀ k : Nat, k < 256 → s.peek (word s.a (BitVec.ofNat 8 k)) = some (bytes.getD k 0)) →
    exec (.staAbsolute 0x4014) s = .next
      ({ s with pc := s.pc + 3, outputs := .spriteDma bytes :: s.outputs }.counted
        (4 + (if s.cycles % 2 = 1 then 514 else 513) + s.extraCycles + s.stall))

/-! ## Addressing modes -/

/-- The modes that read nothing: the zero-page modes wrap within page 0, the absolute modes wrap in 16 bits and report a crossed
page, Relative adds the signed offset to the post-fetch `PC` (R116 to R121, R125, R126). -/
def Obligations.DirectModes : Prop :=
  ∀ (zp off : Byte) (w : Word) (s : State),
    zeroPage zp s = { ea := BitVec.ofNat 16 zp.toNat, crossed := false, state := s } ∧
    zeroPageX zp s = { ea := BitVec.ofNat 16 ((zp.toNat + s.x.toNat) % 256), crossed := false, state := s } ∧
    zeroPageY zp s = { ea := BitVec.ofNat 16 ((zp.toNat + s.y.toNat) % 256), crossed := false, state := s } ∧
    absolute w s = { ea := w, crossed := false, state := s } ∧
    (let ea : Word := BitVec.ofNat 16 ((w.toNat + s.x.toNat) % 65536)
     absoluteX w s = { ea := ea, crossed := decide (ea.toNat / 256 ≠ w.toNat / 256), state := s }) ∧
    (let ea : Word := BitVec.ofNat 16 ((w.toNat + s.y.toNat) % 65536)
     absoluteY w s = { ea := ea, crossed := decide (ea.toNat / 256 ≠ w.toNat / 256), state := s }) ∧
    (let ea : Word := BitVec.ofInt 16 (s.pc.toNat + off.toInt)
     relative off s = { ea := ea, crossed := decide (ea.toNat / 256 ≠ s.pc.toNat / 256), state := s }) ∧
    [Mode.zeroPage, .zeroPageX, .zeroPageY, .absolute, .absoluteX, .absoluteY, .relative].map Mode.length =
      [2, 2, 2, 3, 3, 3, 2]

/-- The indirect modes: the pointer is read with the page-wrap bug, so that of a zero-page pointer both bytes lie in page 0; `(zp),Y`
adds `Y` in 16 bits and reports a crossed page (R122, R123, R124). -/
def Obligations.IndirectModes : Prop :=
  ∀ (zp : Byte) (p : Word) (s : State) (l h : Byte),
    (let r := read16Bug p s
     indirect p s = { ea := r.1, crossed := false, state := r.2 }) ∧
    (s.peek p = some l → s.peek (BitVec.ofNat 16 (p.toNat / 256 * 256 + (p.toNat + 1) % 256)) = some h →
      indirect p s = { ea := word h l, crossed := false, state := s }) ∧
    (s.ram.read ((zp.toNat + s.x.toNat) % 256) = l → s.ram.read ((zp.toNat + s.x.toNat + 1) % 256) = h →
      indexedIndirect zp s = { ea := word h l, crossed := false, state := s }) ∧
    (s.ram.read zp.toNat = l → s.ram.read ((zp.toNat + 1) % 256) = h →
      let ea : Word := BitVec.ofNat 16 (((word h l).toNat + s.y.toNat) % 65536)
      indirectIndexed zp s = { ea := ea, crossed := decide (ea.toNat / 256 ≠ h.toNat), state := s }) ∧
    [Mode.indirect, .indexedIndirect, .indirectIndexed].map Mode.length = [3, 2, 2]

/-! ## Loads, stores, transfers, the stack -/

/-- LDA, LDX, LDY: the register holds the byte read, Z and N describe it, and nothing else changes but what the reads change
(R150, R151, R152, R394). -/
def Obligations.LoadResult : Prop :=
  ∀ (imm zp : Byte) (w : Word) (s : State),
    (∀ f ∈ ldaForms imm zp w, let m := (f.read s).value
      CompletesReading f.instr s { f.after s with a := m, flags := s.flags.withZN m }) ∧
    (∀ f ∈ ldxForms imm zp w, let m := (f.read s).value
      CompletesReading f.instr s { f.after s with x := m, flags := s.flags.withZN m }) ∧
    (∀ f ∈ ldyForms imm zp w, let m := (f.read s).value
      CompletesReading f.instr s { f.after s with y := m, flags := s.flags.withZN m }) ∧
    (ldaForms imm zp w).map (·.instr.opcode) = [0xA1, 0xA5, 0xA9, 0xAD, 0xB1, 0xB5, 0xB9, 0xBD] ∧
    (ldxForms imm zp w).map (·.instr.opcode) = [0xA2, 0xA6, 0xAE, 0xB6, 0xBE] ∧
    (ldyForms imm zp w).map (·.instr.opcode) = [0xA0, 0xA4, 0xAC, 0xB4, 0xBC]

/-- STA, STX, STY and the undocumented SAX: the register's byte (SAX: `A & X`) is stored at the effective address, no flag and no
register changes (R153, R154, R155, R267, R394). -/
def Obligations.StoreResult : Prop :=
  ∀ (zp : Byte) (w : Word) (s : State), s.Inv →
    (∀ f ∈ staForms zp w, CompletesStoring f.instr (f.address s) s.a s (f.stored s.a s)) ∧
    (∀ f ∈ stxForms zp w, CompletesStoring f.instr (f.address s) s.x s (f.stored s.x s)) ∧
    (∀ f ∈ styForms zp w, CompletesStoring f.instr (f.address s) s.y s (f.stored s.y s)) ∧
    (s.params.undocSet = true →
      ∀ f ∈ saxForms zp w, CompletesStoring f.instr (f.address s) (s.a &&& s.x) s (f.stored (s.a &&& s.x) s)) ∧
    (staForms zp w).map (·.instr.opcode) = [0x81, 0x85, 0x8D, 0x91, 0x95, 0x99, 0x9D] ∧
    (stxForms zp w).map (·.instr.opcode) = [0x86, 0x8E, 0x96] ∧
    (styForms zp w).map (·.instr.opcode) = [0x84, 0x8C, 0x94] ∧
    (saxForms zp w).map (·.instr.opcode) = [0x83, 0x87, 0x8F, 0x97]

/-- The six transfers: the target holds the source, Z and N describe it but for TXS, which writes no flag (R160 to R165). -/
def Obligations.TransferResult : Prop :=
  ∀ s : State,
    let t := { s with pc := s.pc + 1 }.counted (2 + s.extraCycles + s.stall)
    CompletesReading .tax s { t with x := s.a, flags := s.flags.withZN s.a } ∧
    CompletesReading .tay s { t with y := s.a, flags := s.flags.withZN s.a } ∧
    CompletesReading .txa s { t with a := s.x, flags := s.flags.withZN s.x } ∧
    CompletesReading .tya s { t with a := s.y, flags := s.flags.withZN s.y } ∧
    CompletesReading .tsx s { t with x := s.sp, flags := s.flags.withZN s.sp } ∧
    CompletesReading .txs s { t with sp := s.x } ∧
    [Instr.tax, .tay, .txa, .tya, .tsx, .txs].map Instr.opcode = [0xAA, 0xA8, 0x8A, 0x98, 0xBA, 0x9A]

/-- PHA and PHP: the byte goes to the stack, `SP` drops by one and wraps, no flag changes; PHP's byte has bits 4 and 5 set. Under the
policy `fatal` both halt the machine at `SP` = 0x00 (R166, R167). -/
def Obligations.PushResult : Prop :=
  (∀ s : State, s.Inv → s.canPush 1 →
    ∀ p ∈ [(Instr.pha, s.a), (Instr.php, statusOf true s.flags)], ∃ t, exec p.1 s = .next t ∧
      t = { s with pc := s.pc + 1, sp := s.sp - 1, ram := pushedRam s.ram s.sp [p.2] }.counted
        (3 + s.extraCycles + s.stall) ∧
      t.peek (stackAddr s.sp) = some p.2 ∧ ChangedOnlyAt (pushedAt s.sp 1) s t) ∧
  (∀ s : State, s.params.stackPolicy = .fatal → s.sp = 0x00 →
    ∀ i ∈ [Instr.pha, .php], exec i s = .next { s with pc := s.pc + 1 }.exhausted) ∧
  [Instr.pha, .php].map Instr.opcode = [0x48, 0x08]

/-- PLA and PLP: `SP` rises by one and wraps, the byte there goes to `A` with Z and N, or to all seven flags; memory keeps it. Under
the policy `fatal` both halt the machine at `SP` = 0xFF (R168, R169). -/
def Obligations.PullResult : Prop :=
  (∀ s : State, s.canPop 1 →
    let t := { s with pc := s.pc + 1, sp := s.sp + 1 }.counted (4 + s.extraCycles + s.stall)
    let v := s.stackByte 1
    CompletesReading .pla s { t with a := v, flags := s.flags.withZN v } ∧
    CompletesReading .plp s { t with flags := flagsOf v }) ∧
  (∀ s : State, s.params.stackPolicy = .fatal → s.sp = 0xFF →
    ∀ i ∈ [Instr.pla, .plp], exec i s = .next { s with pc := s.pc + 1 }.exhausted) ∧
  [Instr.pla, .plp].map Instr.opcode = [0x68, 0x28]

/-! ## Arithmetic -/

/-- ADC: `A` is the low byte of `A + m + C`, C, V, Z and N describe the sum; D plays no part (R181, R394). -/
def Obligations.AdcResult : Prop :=
  ∀ (imm zp : Byte) (w : Word) (s : State),
    (∀ f ∈ adcForms imm zp w, let m := (f.read s).value
      CompletesReading f.instr s { f.after s with a := sumByte s.a m s.flags.c, flags := s.flags.added s.a m }) ∧
    (adcForms imm zp w).map (·.instr.opcode) = [0x61, 0x65, 0x69, 0x6D, 0x71, 0x75, 0x79, 0x7D]

/-- SBC, and its undocumented duplicate: ADC of the one's complement of the operand (R182, R275, R394). -/
def Obligations.SbcResult : Prop :=
  ∀ (imm zp : Byte) (w : Word) (s : State),
    (∀ f ∈ sbcForms imm zp w, (f.instr.status = .undocumented → s.params.undocSet = true) →
      let n : Byte := BitVec.ofNat 8 (255 - (f.read s).value.toNat)
      CompletesReading f.instr s { f.after s with a := sumByte s.a n s.flags.c, flags := s.flags.added s.a n }) ∧
    (sbcForms imm zp w).map (·.instr.opcode) = [0xE1, 0xE5, 0xE9, 0xEB, 0xED, 0xF1, 0xF5, 0xF9, 0xFD]

/-- CMP, CPX, CPY: only C, Z and N are written (R183, R184, R185, R394). -/
def Obligations.CompareResult : Prop :=
  ∀ (imm zp : Byte) (w : Word) (s : State),
    (∀ f ∈ cmpForms imm zp w,
      CompletesReading f.instr s { f.after s with flags := s.flags.compared s.a (f.read s).value }) ∧
    (∀ f ∈ cpxForms imm zp w,
      CompletesReading f.instr s { f.after s with flags := s.flags.compared s.x (f.read s).value }) ∧
    (∀ f ∈ cpyForms imm zp w,
      CompletesReading f.instr s { f.after s with flags := s.flags.compared s.y (f.read s).value }) ∧
    (cmpForms imm zp w).map (·.instr.opcode) = [0xC1, 0xC5, 0xC9, 0xCD, 0xD1, 0xD5, 0xD9, 0xDD] ∧
    (cpxForms imm zp w).map (·.instr.opcode) = [0xE0, 0xE4, 0xEC] ∧
    (cpyForms imm zp w).map (·.instr.opcode) = [0xC0, 0xC4, 0xCC]

/-- INC and DEC: one read, one write of the byte plus or minus one, wrapping; Z and N describe it, C and V stay (R186, R187). -/
def Obligations.IncDecMemory : Prop :=
  ∀ (zp : Byte) (w : Word) (s : State), s.Inv →
    (∀ f ∈ incForms zp w, let r : Byte := BitVec.ofNat 8 ((f.read s).value.toNat + 1)
      CompletesStoring f.instr (f.address s) r s { f.modified r s with flags := s.flags.withZN r }) ∧
    (∀ f ∈ decForms zp w, let r : Byte := BitVec.ofNat 8 ((f.read s).value.toNat + 255)
      CompletesStoring f.instr (f.address s) r s { f.modified r s with flags := s.flags.withZN r }) ∧
    (incForms zp w).map (·.instr.opcode) = [0xE6, 0xEE, 0xF6, 0xFE] ∧
    (decForms zp w).map (·.instr.opcode) = [0xC6, 0xCE, 0xD6, 0xDE]

/-- INX, INY, DEX, DEY: the register plus or minus one, wrapping, with Z and N (R188 to R191). -/
def Obligations.IncDecRegister : Prop :=
  ∀ s : State,
    let t := { s with pc := s.pc + 1 }.counted (2 + s.extraCycles + s.stall)
    let up (v : Byte) : Byte := BitVec.ofNat 8 (v.toNat + 1)
    let down (v : Byte) : Byte := BitVec.ofNat 8 (v.toNat + 255)
    CompletesReading .inx s { t with x := up s.x, flags := s.flags.withZN (up s.x) } ∧
    CompletesReading .iny s { t with y := up s.y, flags := s.flags.withZN (up s.y) } ∧
    CompletesReading .dex s { t with x := down s.x, flags := s.flags.withZN (down s.x) } ∧
    CompletesReading .dey s { t with y := down s.y, flags := s.flags.withZN (down s.y) } ∧
    [Instr.inx, .iny, .dex, .dey].map Instr.opcode = [0xE8, 0xC8, 0xCA, 0x88]

/-- V reports the signed outcome: set by ADC and SBC exactly when the true signed result does not fit in a byte (R180, R181,
R182). -/
def Obligations.SignedOverflow : Prop :=
  ∀ (imm zp : Byte) (w : Word) (s t : State), s.params.undocSet = true →
    (∀ f ∈ adcForms imm zp w, exec f.instr s = .next t →
      let signed : Int := s.a.toInt + (f.read s).value.toInt + (if s.flags.c then 1 else 0)
      t.flags.v = decide (signed < -128 ∨ 127 < signed)) ∧
    (∀ f ∈ sbcForms imm zp w, exec f.instr s = .next t →
      let signed : Int := s.a.toInt - (f.read s).value.toInt - (if s.flags.c then 0 else 1)
      t.flags.v = decide (signed < -128 ∨ 127 < signed))

/-- D has no effect on arithmetic: with D replaced, ADC and SBC do the same and leave D as replaced (R181, R182, R249). -/
def Obligations.DecimalIgnored : Prop :=
  ∀ (imm zp : Byte) (w : Word) (s t : State) (d : Bool), s.params.undocSet = true →
    ∀ f ∈ adcForms imm zp w ++ sbcForms imm zp w, exec f.instr s = .next t → exec f.instr (s.withD d) = .next (t.withD d)

/-! ## Logic, shifts and rotates -/

/-- AND, ORA, EOR combine `A` with the byte read and write Z and N; BIT writes Z from `A & m`, V and N from bits 6 and 7 of `m`, and
no register (R200 to R203, R394). -/
def Obligations.LogicResult : Prop :=
  ∀ (imm zp : Byte) (w : Word) (s : State),
    (∀ f ∈ andForms imm zp w, let r := s.a &&& (f.read s).value
      CompletesReading f.instr s { f.after s with a := r, flags := s.flags.withZN r }) ∧
    (∀ f ∈ oraForms imm zp w, let r := s.a ||| (f.read s).value
      CompletesReading f.instr s { f.after s with a := r, flags := s.flags.withZN r }) ∧
    (∀ f ∈ eorForms imm zp w, let r := s.a ^^^ (f.read s).value
      CompletesReading f.instr s { f.after s with a := r, flags := s.flags.withZN r }) ∧
    (∀ f ∈ bitForms zp w, let m := (f.read s).value
      CompletesReading f.instr s { f.after s with
        flags := { s.flags with z := decide (s.a &&& m = 0), v := m.getLsbD 6, n := m.getLsbD 7 } }) ∧
    (andForms imm zp w).map (·.instr.opcode) = [0x21, 0x25, 0x29, 0x2D, 0x31, 0x35, 0x39, 0x3D] ∧
    (oraForms imm zp w).map (·.instr.opcode) = [0x01, 0x05, 0x09, 0x0D, 0x11, 0x15, 0x19, 0x1D] ∧
    (eorForms imm zp w).map (·.instr.opcode) = [0x41, 0x45, 0x49, 0x4D, 0x51, 0x55, 0x59, 0x5D] ∧
    (bitForms zp w).map (·.instr.opcode) = [0x24, 0x2C]

/-- ASL, LSR, ROL, ROR: of the accumulator, the result goes back to `A`; of memory, one read and one write of the result there, `A`
stays. C is the bit shifted out, Z and N describe the result (R204 to R208, R394). -/
def Obligations.ShiftResult : Prop :=
  ∀ (zp : Byte) (w : Word) (s : State),
    let c := s.flags.c.toNat
    (let t := { s with pc := s.pc + 1 }.counted (2 + s.extraCycles + s.stall)
     let high := decide (128 ≤ s.a.toNat)
     let low := decide (s.a.toNat % 2 = 1)
     let result (i : Instr) (out : Bool) (r : Byte) : Prop :=
       CompletesReading i s { t with a := r, flags := { s.flags with c := out }.withZN r }
     result .aslAccumulator high (BitVec.ofNat 8 (2 * s.a.toNat)) ∧
     result .lsrAccumulator low (BitVec.ofNat 8 (s.a.toNat / 2)) ∧
     result .rolAccumulator high (BitVec.ofNat 8 (2 * s.a.toNat + c)) ∧
     result .rorAccumulator low (BitVec.ofNat 8 (s.a.toNat / 2 + 128 * c))) ∧
    (s.Inv →
      let result (f : MemoryForm) (out : Bool) (r : Byte) : Prop :=
        CompletesStoring f.instr (f.address s) r s { f.modified r s with flags := { s.flags with c := out }.withZN r }
      (∀ f ∈ aslForms zp w, let m := (f.read s).value.toNat; result f (decide (128 ≤ m)) (BitVec.ofNat 8 (2 * m))) ∧
      (∀ f ∈ lsrForms zp w, let m := (f.read s).value.toNat; result f (decide (m % 2 = 1)) (BitVec.ofNat 8 (m / 2))) ∧
      (∀ f ∈ rolForms zp w, let m := (f.read s).value.toNat
        result f (decide (128 ≤ m)) (BitVec.ofNat 8 (2 * m + c))) ∧
      (∀ f ∈ rorForms zp w, let m := (f.read s).value.toNat
        result f (decide (m % 2 = 1)) (BitVec.ofNat 8 (m / 2 + 128 * c)))) ∧
    [Instr.aslAccumulator, .lsrAccumulator, .rolAccumulator, .rorAccumulator].map Instr.opcode = [0x0A, 0x4A, 0x2A, 0x6A] ∧
    (aslForms zp w).map (·.instr.opcode) = [0x06, 0x0E, 0x16, 0x1E] ∧
    (lsrForms zp w).map (·.instr.opcode) = [0x46, 0x4E, 0x56, 0x5E] ∧
    (rolForms zp w).map (·.instr.opcode) = [0x26, 0x2E, 0x36, 0x3E] ∧
    (rorForms zp w).map (·.instr.opcode) = [0x66, 0x6E, 0x76, 0x7E]

/-! ## Control transfer -/

/-- The eight branches: taken, `PC` is the post-fetch `PC` plus the signed offset, 3 cycles, 4 when the target lies in another
page; not taken, `PC` is the next instruction, 2 cycles; nothing else changes (R220 to R228). -/
def Obligations.BranchResult : Prop :=
  ∀ (off : Byte) (s : State),
    (∀ p ∈ [(Instr.bcc off, decide (s.flags.c = false)), (.bcs off, decide (s.flags.c = true)),
        (.beq off, decide (s.flags.z = true)), (.bne off, decide (s.flags.z = false)),
        (.bmi off, decide (s.flags.n = true)), (.bpl off, decide (s.flags.n = false)),
        (.bvc off, decide (s.flags.v = false)), (.bvs off, decide (s.flags.v = true))],
      let after := s.pc + 2
      let target : Word := BitVec.ofInt 16 (after.toNat + off.toInt)
      CompletesReading p.1 s
        (if p.2 = true then
          { s with pc := target }.counted
            ((if target.toNat / 256 = after.toNat / 256 then 3 else 4) + s.extraCycles + s.stall)
        else { s with pc := after }.counted (2 + s.extraCycles + s.stall))) ∧
    [Instr.bcc off, .bcs off, .beq off, .bne off, .bmi off, .bpl off, .bvc off, .bvs off].map Instr.opcode =
      [0x90, 0xB0, 0xF0, 0xD0, 0x30, 0x10, 0x50, 0x70]

/-- JMP: `PC` is the operand, 3 cycles; or the pointer's word, read with the page-wrap bug, 5 cycles; nothing else changes but what
the pointer reads change (R229, R122, R66). -/
def Obligations.JmpResult : Prop :=
  ∀ (w : Word) (s : State),
    CompletesReading (.jmpAbsolute w) s ({ s with pc := w }.counted (3 + s.extraCycles + s.stall)) ∧
    (let r := read16Bug w (s.advance 3)
     CompletesReading (.jmpIndirect w) s
        (({ s with pc := r.1 }.withReads r.2).counted (5 + s.extraCycles + s.stall))) ∧
    (∀ l h : Byte, s.peek w = some l →
      s.peek (BitVec.ofNat 16 (w.toNat / 256 * 256 + (w.toNat + 1) % 256)) = some h →
      exec (.jmpIndirect w) s = .next ({ s with pc := word h l }.counted (5 + s.extraCycles + s.stall))) ∧
    (Instr.jmpAbsolute w).opcode = 0x4C ∧ (Instr.jmpIndirect w).opcode = 0x6C

/-- JSR: the address of its own last byte is pushed, high byte first, and `PC` is the operand (R230, R61). -/
def Obligations.JsrResult : Prop :=
  ∀ (w : Word) (s : State), s.Inv → s.canPush 2 →
    (Instr.jsrAbsolute w).opcode = 0x20 ∧ ∃ t, exec (.jsrAbsolute w) s = .next t ∧
      t = { s with
        pc := w, sp := s.sp - 2
        ram := pushedRam s.ram s.sp [hi (s.pc + 2), lo (s.pc + 2)] }.counted (6 + s.extraCycles + s.stall) ∧
      t.peek (stackAddr s.sp) = some (hi (s.pc + 2)) ∧ t.peek (stackAddr (s.sp - 1)) = some (lo (s.pc + 2)) ∧
      ChangedOnlyAt (pushedAt s.sp 2) s t

/-- RTS: the word on the stack, low byte first, plus one goes to `PC`; memory keeps the bytes (R231, R61). -/
def Obligations.RtsResult : Prop :=
  ∀ s : State, s.canPop 2 →
    CompletesReading .rts s
      ({ s with pc := word (s.stackByte 2) (s.stackByte 1) + 1, sp := s.sp + 2 }.counted (6 + s.extraCycles + s.stall)) ∧
    Instr.rts.opcode = 0x60

/-- RTS undoes JSR: it goes on after the JSR with the stack pointer as before, whatever the stack pointer was (R61, R230, R231). -/
def Obligations.CallReturns : Prop :=
  ∀ (w : Word) (s t : State), s.Inv → s.canPush 2 → exec (.jsrAbsolute w) s = .next t →
    ∃ u, exec .rts t = .next u ∧ u.pc = s.pc + 3 ∧ u.sp = s.sp ∧ u.flags = s.flags ∧ u.a = s.a ∧ u.x = s.x ∧ u.y = s.y ∧
      ChangedOnlyAt (pushedAt s.sp 2) s u

/-! ## Flags, NOP, BRK, RTI -/

/-- The seven flag instructions write their one flag, NOP nothing; `PC` and the cycles advance (R245 to R252). -/
def Obligations.FlagResult : Prop :=
  ∀ s : State,
    let t := { s with pc := s.pc + 1 }.counted (2 + s.extraCycles + s.stall)
    CompletesReading .clc s { t with flags := { s.flags with c := false } } ∧
    CompletesReading .sec s { t with flags := { s.flags with c := true } } ∧
    CompletesReading .cli s { t with flags := { s.flags with i := false } } ∧
    CompletesReading .sei s { t with flags := { s.flags with i := true } } ∧
    CompletesReading .cld s { t with flags := { s.flags with d := false } } ∧
    CompletesReading .sed s { t with flags := { s.flags with d := true } } ∧
    CompletesReading .clv s { t with flags := { s.flags with v := false } } ∧
    CompletesReading .nop s t ∧
    [Instr.clc, .sec, .cli, .sei, .cld, .sed, .clv, .nop].map Instr.opcode = [0x18, 0x38, 0x58, 0x78, 0xD8, 0xF8, 0xB8, 0xEA]

/-- BRK: `pc0 + 2` and the status byte with bits 4 and 5 set are pushed, `I` is set and no other flag changes, `PC` comes from
0xFFFE, 7 cycles, whatever `I` was (R253, R309, R312). -/
def Obligations.BrkResult : Prop :=
  ∀ (s : State) (l h : Byte), s.Inv → s.canPush 3 → s.peek 0xFFFE = some l → s.peek 0xFFFF = some h →
    Instr.brk.opcode = 0x00 ∧ ∃ t, exec .brk s = .next t ∧
      t = { s with
        pc := word h l, sp := s.sp - 3, flags := { s.flags with i := true }
        ram := pushedRam s.ram s.sp [hi (s.pc + 2), lo (s.pc + 2), statusOf true s.flags] }.counted
          (7 + s.extraCycles + s.stall) ∧
      t.peek (stackAddr s.sp) = some (hi (s.pc + 2)) ∧ t.peek (stackAddr (s.sp - 1)) = some (lo (s.pc + 2)) ∧
      t.peek (stackAddr (s.sp - 2)) = some (statusOf true s.flags) ∧ ChangedOnlyAt (pushedAt s.sp 3) s t

/-- RTI: the status byte's seven flags, then `PC`, low byte first, from the stack; memory keeps the bytes (R254, R313). -/
def Obligations.RtiResult : Prop :=
  ∀ s : State, s.canPop 3 →
    CompletesReading .rti s
      ({ s with
        pc := word (s.stackByte 3) (s.stackByte 2), sp := s.sp + 3
        flags := flagsOf (s.stackByte 1) }.counted (6 + s.extraCycles + s.stall)) ∧
    Instr.rti.opcode = 0x40

/-- Under the policy `fatal` a push that finds no room and a pop that finds no byte halt the machine, in the middle of an instruction
or of an interrupt entry: the pushes and pops that came before are kept, nothing after them happens, and `PC` is past the
instruction. JSR, BRK and both entries, with room for fewer bytes than they push; RTS and RTI, with fewer bytes than they pop (R64,
R300, R305). -/
def Obligations.StackExhaustion : Prop :=
  ∀ (w : Word) (s : State), s.params.stackPolicy = .fatal →
    let room := s.sp.toNat
    let held := 255 - s.sp.toNat
    let pushed (t : State) (bytes : List Byte) : State :=
      { t with sp := 0x00, ram := pushedRam s.ram s.sp (bytes.take room) }.exhausted
    (room < 2 →
      exec (.jsrAbsolute w) s = .next (pushed { s with pc := s.pc + 3 } [hi (s.pc + 2), lo (s.pc + 2)])) ∧
    (room < 3 →
      exec .brk s = .next
        (pushed { s with pc := s.pc + 1 } [hi (s.pc + 2), lo (s.pc + 2), statusOf true s.flags]) ∧
      nmiEntry s = pushed { s with nmiPending := false } [hi s.pc, lo s.pc, statusOf false s.flags] ∧
      irqEntry s = pushed s [hi s.pc, lo s.pc, statusOf false s.flags]) ∧
    (held < 2 → exec .rts s = .next { s with pc := s.pc + 1, sp := 0xFF }.exhausted) ∧
    (held < 3 → exec .rti s = .next { s with
      pc := s.pc + 1, sp := 0xFF, flags := if held = 0 then s.flags else flagsOf (s.stackByte 1) }.exhausted)

/-! ## Undocumented instructions -/

/-- LAX loads `A` and `X` with the byte read (R266); the undocumented NOPs read it and do nothing, or read nothing and only pass
(R274). -/
def Obligations.LaxNopResult : Prop :=
  ∀ (imm zp : Byte) (w : Word) (s : State), s.params.undocSet = true →
    (∀ f ∈ laxForms zp w, let m := (f.read s).value
      CompletesReading f.instr s { f.after s with a := m, x := m, flags := s.flags.withZN m }) ∧
    (∀ f ∈ nopReadForms imm zp w, CompletesReading f.instr s (f.after s)) ∧
    (∀ i ∈ nopImpliedForms,
      CompletesReading i s ({ s with pc := s.pc + 1 }.counted (2 + s.extraCycles + s.stall))) ∧
    (laxForms zp w).map (·.instr.opcode) = [0xA3, 0xA7, 0xAF, 0xB3, 0xB7, 0xBF] ∧
    (nopReadForms imm zp w).map (·.instr.opcode) =
      [0x04, 0x0C, 0x14, 0x1C, 0x34, 0x3C, 0x44, 0x54, 0x5C, 0x64, 0x74, 0x7C, 0x80, 0x82, 0x89, 0xC2, 0xD4, 0xDC, 0xE2,
        0xF4, 0xFC] ∧
    nopImpliedForms.map Instr.opcode = [0x1A, 0x3A, 0x5A, 0x7A, 0xDA, 0xFA]

/-- DCP decrements memory and compares `A` with the result; ISB increments memory and subtracts the result (R268, R269). -/
def Obligations.DcpIsbResult : Prop :=
  ∀ (zp : Byte) (w : Word) (s : State), s.Inv → s.params.undocSet = true →
    (∀ f ∈ dcpForms zp w, let r : Byte := BitVec.ofNat 8 ((f.read s).value.toNat + 255)
      CompletesStoring f.instr (f.address s) r s { f.modified r s with flags := s.flags.compared s.a r }) ∧
    (∀ f ∈ isbForms zp w, let r : Byte := BitVec.ofNat 8 ((f.read s).value.toNat + 1)
      let n : Byte := BitVec.ofNat 8 (255 - r.toNat)
      CompletesStoring f.instr (f.address s) r s { f.modified r s with
        a := sumByte s.a n s.flags.c, flags := s.flags.added s.a n }) ∧
    (dcpForms zp w).map (·.instr.opcode) = [0xC3, 0xC7, 0xCF, 0xD3, 0xD7, 0xDB, 0xDF] ∧
    (isbForms zp w).map (·.instr.opcode) = [0xE3, 0xE7, 0xEF, 0xF3, 0xF7, 0xFB, 0xFF]

/-- SLO, RLA, SRE shift or rotate memory and combine the result with `A`; RRA rotates memory and adds the result with the carry the
rotate made (R270 to R273). -/
def Obligations.ShiftCombineResult : Prop :=
  ∀ (zp : Byte) (w : Word) (s : State), s.Inv → s.params.undocSet = true →
    let c := s.flags.c.toNat
    let result (f : MemoryForm) (out : Bool) (r a : Byte) : Prop :=
      CompletesStoring f.instr (f.address s) r s { f.modified r s with
        a := a, flags := { s.flags with c := out }.withZN a }
    (∀ f ∈ sloForms zp w, let m := (f.read s).value.toNat; let r : Byte := BitVec.ofNat 8 (2 * m)
      result f (decide (128 ≤ m)) r (s.a ||| r)) ∧
    (∀ f ∈ rlaForms zp w, let m := (f.read s).value.toNat; let r : Byte := BitVec.ofNat 8 (2 * m + c)
      result f (decide (128 ≤ m)) r (s.a &&& r)) ∧
    (∀ f ∈ sreForms zp w, let m := (f.read s).value.toNat; let r : Byte := BitVec.ofNat 8 (m / 2)
      result f (decide (m % 2 = 1)) r (s.a ^^^ r)) ∧
    (∀ f ∈ rraForms zp w, let m := (f.read s).value.toNat; let r : Byte := BitVec.ofNat 8 (m / 2 + 128 * c)
      let out := decide (m % 2 = 1)
      CompletesStoring f.instr (f.address s) r s { f.modified r s with
        a := sumByte s.a r out, flags := { s.flags with c := out }.added s.a r }) ∧
    (sloForms zp w).map (·.instr.opcode) = [0x03, 0x07, 0x0F, 0x13, 0x17, 0x1B, 0x1F] ∧
    (rlaForms zp w).map (·.instr.opcode) = [0x23, 0x27, 0x2F, 0x33, 0x37, 0x3B, 0x3F] ∧
    (sreForms zp w).map (·.instr.opcode) = [0x43, 0x47, 0x4F, 0x53, 0x57, 0x5B, 0x5F] ∧
    (rraForms zp w).map (·.instr.opcode) = [0x63, 0x67, 0x6F, 0x73, 0x77, 0x7B, 0x7F]

/-! ## The audio unit -/

/-- The write-only audio registers set the fields of their bits, and nothing else; the length table, and R348's tables of noise
periods and rates, are written out (R337 to R343, R347). -/
def Obligations.AudioRegisters : Prop :=
  ∀ (s : State) (v : Byte),
    let u := s.apu
    let writes (a : Word) (t : Apu) : Prop := busWrite a v s = { s with apu := t }
    let lengths : List (BitVec 8) :=
      [10, 254, 20, 2, 40, 4, 80, 6, 160, 8, 60, 10, 14, 12, 26, 14] ++
        [12, 16, 24, 18, 48, 20, 96, 22, 192, 24, 72, 26, 16, 28, 32, 30]
    let periods : List Nat := [4, 8, 16, 32, 64, 96, 128, 160, 202, 254, 380, 508, 762, 1016, 2034, 4068]
    let rates : List Nat := [428, 380, 340, 320, 286, 254, 226, 214, 190, 160, 142, 128, 106, 84, 72, 54]
    let field (low n : Nat) : Nat := v.toNat / 2 ^ low % 2 ^ n
    let length (enabled : Bool) (n : BitVec 8) : BitVec 8 := if enabled = true then lengths.getD (field 3 5) 0 else n
    let low (n : BitVec 11) : BitVec 11 := BitVec.ofNat 11 (n.toNat / 256 * 256 + v.toNat)
    let high (n : BitVec 11) : BitVec 11 := BitVec.ofNat 11 (field 0 3 * 256 + n.toNat % 256)
    let envelope (e : Envelope) : Envelope :=
      { e with halt := v.getLsbD 5, constVol := v.getLsbD 4, vol := BitVec.ofNat 4 (field 0 4) }
    let control (p : Pulse) : Pulse := { p with duty := BitVec.ofNat 2 (field 6 2), env := envelope p.env }
    let sweep (p : Pulse) : Pulse := { p with
      sweepEnable := v.getLsbD 7, sweepPeriod := BitVec.ofNat 3 (field 4 3), sweepNegate := v.getLsbD 3
      sweepShift := BitVec.ofNat 3 (field 0 3), sweepReload := true }
    let timerHigh (p : Pulse) : Pulse := { p with
      timerPeriod := high p.timerPeriod, length := length p.enabled p.length, dutyPos := 0
      env := { p.env with start := true } }
    writes 0x4000 { u with pulse1 := control u.pulse1 } ∧ writes 0x4004 { u with pulse2 := control u.pulse2 } ∧
    writes 0x4001 { u with pulse1 := sweep u.pulse1 } ∧ writes 0x4005 { u with pulse2 := sweep u.pulse2 } ∧
    writes 0x4002 { u with pulse1 := { u.pulse1 with timerPeriod := low u.pulse1.timerPeriod } } ∧
    writes 0x4006 { u with pulse2 := { u.pulse2 with timerPeriod := low u.pulse2.timerPeriod } } ∧
    writes 0x4003 { u with pulse1 := timerHigh u.pulse1 } ∧ writes 0x4007 { u with pulse2 := timerHigh u.pulse2 } ∧
    writes 0x4008 { u with
      tri := { u.tri with control := v.getLsbD 7, linearReloadValue := BitVec.ofNat 7 (field 0 7) } } ∧
    writes 0x400A { u with tri := { u.tri with timerPeriod := low u.tri.timerPeriod } } ∧
    writes 0x400B { u with
      tri := { u.tri with
        timerPeriod := high u.tri.timerPeriod, length := length u.tri.enabled u.tri.length, linearReload := true } } ∧
    writes 0x400C { u with noise := { u.noise with env := envelope u.noise.env } } ∧
    writes 0x400E { u with
      noise := { u.noise with
        mode := v.getLsbD 7, timerPeriod := BitVec.ofNat 12 (periods.getD (field 0 4) 0 / 2 - 1) } } ∧
    writes 0x400F { u with
      noise := { u.noise with
        length := length u.noise.enabled u.noise.length, env := { u.noise.env with start := true } } } ∧
    writes 0x4010 { u with
      dmc := { u.dmc with
        irqEnable := v.getLsbD 7, loop := v.getLsbD 6
        timerPeriod := BitVec.ofNat 8 (rates.getD (field 0 4) 0 / 2 - 1) }
      dmcIrq := if v.getLsbD 7 = false then false else u.dmcIrq } ∧
    writes 0x4011 { u with dmc := { u.dmc with level := BitVec.ofNat 7 (field 0 7) } } ∧
    writes 0x4012 { u with dmc := { u.dmc with sampleAddr := BitVec.ofNat 16 (0xC000 + 64 * v.toNat) } } ∧
    writes 0x4013 { u with dmc := { u.dmc with sampleLen := BitVec.ofNat 12 (16 * v.toNat + 1) } }

/-- The channels' clocks: the envelope's three cases, the sweep's target and reload, and the timers of the five channels, which
fire and reload when clocked at 0 and count down otherwise (R350, R351, R353). -/
def Obligations.ChannelClocks : Prop :=
  (∀ e : Envelope,
    (e.start = true → e.clock = { e with start := false, decay := 15, divider := e.vol }) ∧
    (e.start = false → e.divider ≠ 0 → e.clock = { e with divider := BitVec.ofNat 4 (e.divider.toNat - 1) }) ∧
    (e.start = false → e.divider = 0 → e.clock = { e with
      divider := e.vol
      decay := BitVec.ofNat 4 (if 0 < e.decay.toNat then e.decay.toNat - 1 else if e.halt = true then 15 else 0) })) ∧
  (∀ (first : Bool) (p : Pulse),
    let n := p.timerPeriod.toNat
    let change := n / 2 ^ p.sweepShift.toNat
    let target := if p.sweepNegate = false then n + change else if first = true then n - (change + 1) else n - change
    let moves := decide (p.sweepDivider = 0 ∧ p.sweepEnable = true ∧ p.sweepShift ≠ 0 ∧ 8 ≤ n ∧ target ≤ 0x7FF)
    (p.clockSweep first).timerPeriod.toNat = (if moves = true then target else n) ∧
    (p.clockSweep first).sweepDivider =
      (if p.sweepDivider = 0 ∨ p.sweepReload = true then p.sweepPeriod else p.sweepDivider - 1) ∧
    (p.clockSweep first).sweepReload = false ∧
    p.clockSweep first = { p with
      timerPeriod := (p.clockSweep first).timerPeriod, sweepDivider := (p.clockSweep first).sweepDivider
      sweepReload := false }) ∧
  (∀ p : Pulse, p.clockTimer =
    if p.timerCounter.toNat = 0 then
      { p with timerCounter := p.timerPeriod, dutyPos := BitVec.ofNat 3 ((p.dutyPos.toNat + 1) % 8) }
    else { p with timerCounter := BitVec.ofNat 11 (p.timerCounter.toNat - 1) }) ∧
  (∀ t : Triangle, t.clockTimer =
    if t.timerCounter.toNat = 0 then
      { t with
        timerCounter := t.timerPeriod
        seqPos :=
          if 0 < t.length.toNat ∧ 0 < t.linear.toNat then BitVec.ofNat 5 ((t.seqPos.toNat + 1) % 32) else t.seqPos }
    else { t with timerCounter := BitVec.ofNat 11 (t.timerCounter.toNat - 1) }) ∧
  (∀ n : Noise,
    let tap := n.lfsr.toNat / 2 ^ (if n.mode = true then 6 else 1) % 2
    n.clockTimer =
      if n.timerCounter.toNat = 0 then
        { n with
          timerCounter := n.timerPeriod
          lfsr := BitVec.ofNat 15 (n.lfsr.toNat / 2 + 16384 * ((n.lfsr.toNat % 2 + tap) % 2)) }
      else { n with timerCounter := BitVec.ofNat 12 (n.timerCounter.toNat - 1) }) ∧
  (∀ d : Dmc,
    let level := d.level.toNat
    d.clockTimer =
      if d.timerCounter.toNat ≠ 0 then { d with timerCounter := BitVec.ofNat 8 (d.timerCounter.toNat - 1) }
      else if d.bitsLeft.toNat = 0 then { d with timerCounter := d.timerPeriod }
      else
        { d with
          timerCounter := d.timerPeriod
          level := BitVec.ofNat 7
            (if d.shift.toNat % 2 = 1 then (if level ≤ 125 then level + 2 else level)
             else if 2 ≤ level then level - 2 else level)
          shift := BitVec.ofNat 8 (d.shift.toNat / 2), bitsLeft := BitVec.ofNat 4 (d.bitsLeft.toNat - 1) })

/-- The frame sequencer: what each step of each mode clocks; in 4-step mode the last step raises the interrupt flag unless it is
inhibited, in 5-step mode none does; a raised flag stays; the step counts modulo 4 or 5 (R354, R355). -/
def Obligations.FrameSequencer : Prop :=
  ∀ u : Apu, u.frameStep.toNat < (if u.frameMode then 5 else 4) →
    let n := u.frameStep.toNat
    let last := if u.frameMode then 4 else 3
    let first := if u.frameMode = true ∧ n = 3 then u else u.withEnvelopes
    let second := if n = 1 ∨ n = last then first.withSweepsAndLengths else first
    u.frameClock = { second with
      frameIrq := u.frameIrq || (!u.frameMode && n == 3 && !u.frameInhibit)
      frameStep := BitVec.ofNat 3 (if n = last then 0 else n + 1) }

/-- A write of 0x4017 sets the mode and the inhibit bit, clears the interrupt when inhibited, starts the sequencer over, and in
5-step mode clocks the envelopes, the linear counter, the sweeps and the lengths once at once (R346). -/
def Obligations.FrameWrite : Prop :=
  ∀ (s : State) (v : Byte),
    let u := { s.apu with
      frameMode := v.getLsbD 7, frameInhibit := v.getLsbD 6, frameStep := 0
      frameIrq := if v.getLsbD 6 = true then false else s.apu.frameIrq }
    let clocked := u.withEnvelopes.withSweepsAndLengths
    busWrite 0x4017 v s = { s with apu := if v.getLsbD 7 = true then clocked else u }

/-- One APU step: on odd counts the delta-modulation reader runs first (what it does is `DmcReader`'s), then the pulse, noise and
delta-modulation timers; the triangle's timer runs always; then the frame sequencer and the sample at their checkpoints. A frame
checkpoint follows the last after 7457 or 7458 steps, a sample checkpoint after 40 or 41. The sample: the mixer is within two units
of 2^-32 of R357's value, every filter coefficient is R359's to the nearest unit, and each stage's output is rounded down (R348,
R352, R353, R356 to R359). The record of samples and their fixed point are the model's choice (log entries 10, 11). -/
def Obligations.ApuStep : Prop :=
  (∀ s : State,
    let c := s.apu.apuCycle
    let crosses (rate : Nat) : Prop := c * rate / 1789773 ≠ (c + 1) * rate / 1789773
    let r := if c % 2 = 1 then dmcReader s else s
    let u := { r.apu with apuCycle := c + 1, tri := r.apu.tri.clockTimer }
    let slow := { u with
      pulse1 := u.pulse1.clockTimer, pulse2 := u.pulse2.clockTimer, noise := u.noise.clockTimer
      dmc := u.dmc.clockTimer }
    let u := if c % 2 = 1 then slow else u
    let u := if crosses 240 then u.frameClock else u
    apuStep s = { r with
      apuOwed := s.apuOwed - 1
      apu := if crosses 44100 then u.afterSample else u
      outputs := if crosses 44100 then .audioSample u.sample :: r.outputs else r.outputs }) ∧
  (∀ c : Nat,
    let crosses (rate k : Nat) : Prop := (c + k) * rate / 1789773 ≠ (c + k + 1) * rate / 1789773
    (crosses 240 0 → (crosses 240 7457 ∨ crosses 240 7458) ∧ ∀ k : Nat, 0 < k → k < 7457 → ¬ crosses 240 k) ∧
    (crosses 44100 0 → (crosses 44100 40 ∨ crosses 44100 41) ∧ ∀ k : Nat, 0 < k → k < 40 → ¬ crosses 44100 k)) ∧
  (∀ u : Apu, (u.mix : ℚ) ≤ 2 ^ 32 * exactMix u ∧ 2 ^ 32 * exactMix u < u.mix + 2 ∧
    ∃ y1 y2 y3 : Int, FilterRounds hp1Coeffs u.hp1 u.mix y1 ∧ FilterRounds hp2Coeffs u.hp2 y1 y2 ∧
      FilterRounds lpCoeffs u.lp y2 y3 ∧ u.sample = y3 ∧
      u.afterSample = { u with
        hp1 := { xPrev := u.mix, yPrev := y1 }, hp2 := { xPrev := y1, yPrev := y2 }
        lp := { xPrev := y2, yPrev := y3 } }) ∧
  hp1Coeffs.Near true 90 ∧ hp2Coeffs.Near true 440 ∧ lpCoeffs.Near false 14000

/-- The delta-modulation reader: with bytes left and no bits left it reads the next byte, charges 4 stall cycles, moves on with the
wrap from 0xFFFF to 0x8000, and at the sample's end restarts it or raises its interrupt; else it does nothing (R349). That a read from
below 0x8000, which R349 excludes, goes through the whole bus decoder is the model's reading (log entry 16). -/
def Obligations.DmcReader : Prop :=
  ∀ s : State,
    (s.apu.dmc.bytesLeft = 0 ∨ s.apu.dmc.bitsLeft ≠ 0 → dmcReader s = s) ∧
    (s.apu.dmc.bytesLeft ≠ 0 → s.apu.dmc.bitsLeft = 0 → ∀ v : Byte, s.peek s.apu.dmc.curAddr = some v →
      let last := s.apu.dmc.bytesLeft.toNat = 1
      let next : Word := if s.apu.dmc.curAddr = 0xFFFF then 0x8000 else s.apu.dmc.curAddr + 1
      dmcReader s = { s with
        stall := s.stall + 4
        apu := { s.apu with
          dmcIrq := s.apu.dmcIrq || (decide last && !s.apu.dmc.loop && s.apu.dmc.irqEnable)
          dmc := { s.apu.dmc with
            shift := v, bitsLeft := 8
            curAddr := if last ∧ s.apu.dmc.loop = true then s.apu.dmc.sampleAddr else next
            bytesLeft :=
              if last ∧ s.apu.dmc.loop = true then s.apu.dmc.sampleLen else s.apu.dmc.bytesLeft - 1 } } })

/-- The status register: a write of 0x4015 enables channels and zeroes the length counters of those it disables, starts or stops
the sample and clears its interrupt (R344); a read returns the lengths, the sample and the two interrupt flags and clears only the
frame interrupt (R345). -/
def Obligations.StatusRegister : Prop :=
  ∀ (s : State) (v : Byte),
    (let len (k : Nat) (n : BitVec 8) : BitVec 8 := if v.getLsbD k = true then n else 0
     busWrite 0x4015 v s = { s with apu := { s.apu with
        pulse1 := { s.apu.pulse1 with enabled := v.getLsbD 0, length := len 0 s.apu.pulse1.length }
        pulse2 := { s.apu.pulse2 with enabled := v.getLsbD 1, length := len 1 s.apu.pulse2.length }
        tri := { s.apu.tri with enabled := v.getLsbD 2, length := len 2 s.apu.tri.length }
        noise := { s.apu.noise with enabled := v.getLsbD 3, length := len 3 s.apu.noise.length }
        dmc :=
          if v.getLsbD 4 = false then { s.apu.dmc with bytesLeft := 0 }
          else if s.apu.dmc.bytesLeft = 0 then
            { s.apu.dmc with curAddr := s.apu.dmc.sampleAddr, bytesLeft := s.apu.dmc.sampleLen }
          else s.apu.dmc
        dmcIrq := false } }) ∧
    (let r := busRead 0x4015 s
     r.2 = { s with apu := { s.apu with frameIrq := false } } ∧
      r.1.toNat =
        (if s.apu.pulse1.length = 0 then 0 else 1) + (if s.apu.pulse2.length = 0 then 0 else 2) +
        (if s.apu.tri.length = 0 then 0 else 4) + (if s.apu.noise.length = 0 then 0 else 8) +
        (if s.apu.dmc.bytesLeft = 0 then 0 else 16) + (if s.apu.frameIrq then 64 else 0) +
        (if s.apu.dmcIrq then 128 else 0))
end

