-- ==== Sys2Proof/Laws/Audio.lean ====
section
/-! SUPPORT. The audio output: the channel outputs in numbers, how near the mixer's tables and the filters' coefficients are to the
spec's, and what a filter stage rounds. -/

namespace Sys2Proof.Machine

theorem Envelope.volume_eq (e : Envelope) : e.volume.toNat = volumeOf e := by
  unfold Envelope.volume volumeOf
  split <;> rfl

theorem Pulse.sweepTarget_eq (first : Bool) (p : Pulse) : p.sweepTarget first = sweepTargetOf first p := by
  unfold Pulse.sweepTarget Pulse.sweepChange sweepTargetOf
  rw [Nat.shiftRight_eq_div_pow]
  cases p.sweepNegate <;> cases first <;> simp
  omega

/-- A pulse channel is muted by a short period or a target above 0x7FF (R351). -/
theorem Pulse.muted_iff (first : Bool) (p : Pulse) :
    p.muted first = true ↔ p.timerPeriod.toNat < 8 ∨ 0x7FF < sweepTargetOf first p := by
  unfold Pulse.muted
  rw [Pulse.sweepTarget_eq]
  simp

/-- The duty rows as numbers (R348). -/
theorem duty_eq (d : BitVec 2) (q : BitVec 3) :
    ((dutyTable.getD d.toNat []).getD q.toNat false = false) ↔
      (([[0, 1, 0, 0, 0, 0, 0, 0], [0, 1, 1, 0, 0, 0, 0, 0], [0, 1, 1, 1, 1, 0, 0, 0], [1, 0, 0, 1, 1, 1, 1, 1]] :
        List (List Nat)).getD d.toNat []).getD q.toNat 0 = 0 := by
  revert d q
  decide

theorem Pulse.out_eq (first : Bool) (p : Pulse) : p.out first = pulseOutput first p := by
  unfold Pulse.out pulseOutput
  simp only [duty_eq, Pulse.muted_iff, Envelope.volume_eq]

theorem Triangle.out_eq (t : Triangle) : t.out = triangleOutput t := by
  unfold Triangle.out triangleOutput
  generalize t.seqPos = q
  revert q
  decide

theorem Noise.out_eq (n : Noise) : n.out = noiseOutput n := by
  unfold Noise.out noiseOutput
  have h : n.lfsr.getLsbD 0 = true ↔ n.lfsr.toNat % 2 = 1 := by
    rw [BitVec.getLsbD, Nat.testBit_eq_decide_div_mod_eq]
    simp
  simp only [h, Envelope.volume_eq]

/-- A quotient rounded down lies within one unit below the exact one. -/
theorem quotient_bounds {a b : Nat} (h : 0 < b) :
    ((a / b : Nat) : ℚ) ≤ (a : ℚ) / b ∧ (a : ℚ) / b < ((a / b : Nat) : ℚ) + 1 := by
  have hb : (0 : ℚ) < b := by exact_mod_cast h
  rw [le_div_iff₀ hb, div_lt_iff₀ hb, add_mul, one_mul]
  have h1 := Nat.div_mul_le_self a b
  have h2 := Nat.lt_div_mul_add (a := a) h
  exact ⟨by exact_mod_cast h1, by exact_mod_cast h2⟩

/-- The pulse table is R357's, rounded down. -/
theorem pulseTable_bounds (n : Nat) :
    (pulseTable n : ℚ) ≤ 2 ^ 32 * (if n = 0 then 0 else 95.52 / (8128 / (n : ℚ) + 100)) ∧
    2 ^ 32 * (if n = 0 then 0 else 95.52 / (8128 / (n : ℚ) + 100)) < (pulseTable n : ℚ) + 1 := by
  have e : (2 : ℚ) ^ 32 * (if n = 0 then 0 else 95.52 / (8128 / (n : ℚ) + 100)) =
      ((9552 * n * audioScale : Nat) : ℚ) / ((812800 + 10000 * n : Nat) : ℚ) := by
    split
    · next h => subst h; simp
    · next h =>
      have : (0 : ℚ) < n := by exact_mod_cast Nat.pos_of_ne_zero h
      unfold audioScale
      push_cast
      field_simp
      ring
  rw [e]
  exact quotient_bounds (by omega)

/-- The table of the other channels is R357's, rounded down. -/
theorem tndTable_bounds (n : Nat) :
    (tndTable n : ℚ) ≤ 2 ^ 32 * (if n = 0 then 0 else 163.67 / (24329 / (n : ℚ) + 100)) ∧
    2 ^ 32 * (if n = 0 then 0 else 163.67 / (24329 / (n : ℚ) + 100)) < (tndTable n : ℚ) + 1 := by
  have e : (2 : ℚ) ^ 32 * (if n = 0 then 0 else 163.67 / (24329 / (n : ℚ) + 100)) =
      ((16367 * n * audioScale : Nat) : ℚ) / ((2432900 + 10000 * n : Nat) : ℚ) := by
    split
    · next h => subst h; simp
    · next h =>
      have : (0 : ℚ) < n := by exact_mod_cast Nat.pos_of_ne_zero h
      unfold audioScale
      push_cast
      field_simp
      ring
  rw [e]
  exact quotient_bounds (by omega)

/-- A stage's output is the exact one, rounded down (R359). -/
theorem filterOut_rounds (k : FilterCoeffs) (m : FilterMem) (x : Int) : FilterRounds k m x (filterOut k m x) := by
  unfold FilterRounds filterOut
  generalize k.b0 * x + k.b1 * m.xPrev - k.a1 * m.yPrev = z
  rw [show (audioScale : Int) = 2 ^ 32 from rfl]
  omega

/-- What it takes for a stage's coefficients to be R359's, without a quotient. -/
theorem FilterCoeffs.near_of {k : FilterCoeffs} {highPass : Bool} {f : ℝ} (hf : 0 < f)
    (h0 : |(k.b0 : ℝ) * (44100 + Real.pi * f) - 2 ^ 32 * (if highPass = true then 44100 else Real.pi * f)| ≤
      (44100 + Real.pi * f) / 2)
    (h1 : k.b1 = if highPass = true then -k.b0 else k.b0)
    (h2 : |(k.a1 : ℝ) * (44100 + Real.pi * f) - 2 ^ 32 * (Real.pi * f - 44100)| ≤ (44100 + Real.pi * f) / 2) :
    k.Near highPass f := by
  have hx : 0 < Real.pi * f := mul_pos Real.pi_pos hf
  unfold FilterCoeffs.Near
  generalize Real.pi * f = x at *
  have hd : 0 < 44100 + x := by linarith
  have key (z y : ℝ) (h : |z * (44100 + x) - 2 ^ 32 * y| ≤ (44100 + x) / 2) :
      |z - 2 ^ 32 * (y / (44100 + x))| ≤ 1 / 2 := by
    have e : z - 2 ^ 32 * (y / (44100 + x)) = (z * (44100 + x) - 2 ^ 32 * y) / (44100 + x) := by field_simp
    rw [e, abs_div, abs_of_pos hd, div_le_iff₀ hd]
    linarith
  have e0 : 1 / (1 + 44100 / x) = x / (44100 + x) := by field_simp; ring
  have e1 : 44100 / x * (x / (44100 + x)) = 44100 / (44100 + x) := by field_simp
  have e2 : (1 - 44100 / x) * (x / (44100 + x)) = (x - 44100) / (44100 + x) := by field_simp
  dsimp only
  rw [neg_mul, e0, e1, e2]
  cases highPass
  · simp only [Bool.false_eq_true, if_false] at *
    rw [h1]
    exact ⟨key _ _ h0, key _ _ h0, key _ _ h2⟩
  · simp only [if_true] at *
    refine ⟨key _ _ h0, ?_, key _ _ h2⟩
    rw [h1]
    push_cast
    rw [← abs_neg, show -(-(k.b0 : ℝ) - 2 ^ 32 * -(44100 / (44100 + x))) = k.b0 - 2 ^ 32 * (44100 / (44100 + x)) by ring]
    exact key _ _ h0

end Sys2Proof.Machine
end

