-- ==== Sys2Proof/Laws/Memory.lean ====
section
/-! SUPPORT. The laws of the byte stores: a read after a write, and the canonical form every write keeps. -/

namespace Sys2Proof.Machine

theorem Memory.wfFrom_mono {m : Memory} {low low' : Nat} (h : m.wfFrom low = true) (hl : low' ≤ low) :
    m.wfFrom low' = true := by
  cases m with
  | nil => rfl
  | cons c rest =>
    obtain ⟨j, v⟩ := c
    simp only [Memory.wfFrom, Bool.and_eq_true, decide_eq_true_eq] at h ⊢
    exact ⟨⟨le_trans hl h.1.1, h.1.2⟩, h.2⟩

theorem Memory.read_of_lt {m : Memory} {low k : Nat} (h : m.wfFrom low = true) (hk : k < low) :
    m.read k = Config.unlistedByte := by
  induction m generalizing low with
  | nil => rfl
  | cons c rest ih =>
    obtain ⟨j, v⟩ := c
    simp only [Memory.wfFrom, Bool.and_eq_true, decide_eq_true_eq] at h
    have hj : j ≠ k := by omega
    simp only [Memory.read, hj, if_false]
    exact ih h.2 (by omega)

/-- A read of the offset written gives the byte written. -/
theorem Memory.read_write_self {m : Memory} (k : Nat) (v : Byte) {low : Nat} (h : m.wfFrom low = true) :
    (m.write k v).read k = v := by
  induction m generalizing low with
  | nil =>
    simp only [Memory.write]
    split
    · next hv => simp [Memory.read, hv]
    · simp [Memory.read]
  | cons c rest ih =>
    obtain ⟨j, u⟩ := c
    simp only [Memory.wfFrom, Bool.and_eq_true, decide_eq_true_eq] at h
    simp only [Memory.write]
    split
    · next hk =>
      split
      · next hv =>
        have hj : j ≠ k := by omega
        simp only [Memory.read, hj, if_false, hv]
        exact Memory.read_of_lt h.2 (by omega)
      · simp [Memory.read]
    · split
      · next hkj =>
        subst hkj
        split
        · next hv => rw [hv]; exact Memory.read_of_lt h.2 (by omega)
        · simp [Memory.read]
      · next hne =>
        have hj : j ≠ k := fun e => hne e.symm
        simp only [Memory.read, hj, if_false]
        exact ih h.2

/-- A write leaves every other offset alone. -/
theorem Memory.read_write_other (m : Memory) {k k' : Nat} (v : Byte) (hne : k' ≠ k) :
    (m.write k v).read k' = m.read k' := by
  induction m with
  | nil =>
    simp only [Memory.write]
    split
    · rfl
    · simp [Memory.read, Ne.symm hne]
  | cons c rest ih =>
    obtain ⟨j, u⟩ := c
    simp only [Memory.write]
    split
    · split
      · rfl
      · simp [Memory.read, Ne.symm hne]
    · split
      · next hkj =>
        subst hkj
        split <;> simp [Memory.read, Ne.symm hne]
      · simp only [Memory.read, ih]

/-- A write keeps the canonical form from any offset not above it. -/
theorem Memory.write_wfFrom {m : Memory} {low : Nat} (k : Nat) (v : Byte) (h : m.wfFrom low = true) (hk : low ≤ k) :
    (m.write k v).wfFrom low = true := by
  induction m generalizing low with
  | nil =>
    simp only [Memory.write]
    split
    · rfl
    · next hv => simp [Memory.wfFrom, hk, hv]
  | cons c rest ih =>
    obtain ⟨j, u⟩ := c
    have h0 := h
    simp only [Memory.wfFrom, Bool.and_eq_true, decide_eq_true_eq] at h
    simp only [Memory.write]
    split
    · split
      · exact h0
      · next hlt hv =>
        simp only [Memory.wfFrom, Bool.and_eq_true, decide_eq_true_eq]
        exact ⟨⟨hk, by simpa using hv⟩, ⟨by omega, h.1.2⟩, h.2⟩
    · split
      · next hkj =>
        subst hkj
        split
        · exact Memory.wfFrom_mono h.2 (by omega)
        · next hv =>
          simp only [Memory.wfFrom, Bool.and_eq_true, decide_eq_true_eq]
          exact ⟨⟨hk, by simpa using hv⟩, h.2⟩
      · simp only [Memory.wfFrom, Bool.and_eq_true, decide_eq_true_eq]
        exact ⟨h.1, ih h.2 (by omega)⟩

/-- A write keeps the canonical form. -/
theorem Memory.write_wf {m : Memory} (k : Nat) (v : Byte) (h : m.wf = true) : (m.write k v).wf = true :=
  Memory.write_wfFrom k v h (Nat.zero_le k)

/-- A write inside a store's size stays inside it. -/
theorem Memory.write_within {m : Memory} {size : Nat} (k : Nat) (v : Byte) (h : m.within size = true) (hk : k < size) :
    (m.write k v).within size = true := by
  induction m with
  | nil =>
    simp only [Memory.write]
    split <;> simp [Memory.within, hk]
  | cons c rest ih =>
    obtain ⟨j, u⟩ := c
    simp only [Memory.within, List.all_cons, Bool.and_eq_true, decide_eq_true_eq] at h ih ⊢
    have hr := ih h.2
    simp only [Memory.write]
    split
    · split <;> simp [hk, h.1, h.2]
    · split
      · split
        · exact h.2
        · simp only [List.all_cons, Bool.and_eq_true, decide_eq_true_eq]; exact ⟨hk, h.2⟩
      · simp only [List.all_cons, Bool.and_eq_true, decide_eq_true_eq]; exact ⟨h.1, hr⟩

/-- The memory of the reset state is canonical. -/
theorem State.reset_ram_wf : State.reset.ram.wf = true := rfl

end Sys2Proof.Machine
end

