-- ==== Sys2Proof/Laws/State.lean ====
section
/-! SUPPORT. One lemma per field per update of State, each true by unfolding, so that no later proof unfolds a record update. -/

namespace Sys2Proof.Machine

@[simp] theorem State.setA_a (s : State) (v : Byte) : (s.setA v).a = v := rfl
@[simp] theorem State.setA_x (s : State) (v : Byte) : (s.setA v).x = s.x := rfl
@[simp] theorem State.setA_y (s : State) (v : Byte) : (s.setA v).y = s.y := rfl
@[simp] theorem State.setA_sp (s : State) (v : Byte) : (s.setA v).sp = s.sp := rfl
@[simp] theorem State.setA_pc (s : State) (v : Byte) : (s.setA v).pc = s.pc := rfl
@[simp] theorem State.setA_flags (s : State) (v : Byte) : (s.setA v).flags = s.flags := rfl
@[simp] theorem State.setA_nmiPending (s : State) (v : Byte) : (s.setA v).nmiPending = s.nmiPending := rfl
@[simp] theorem State.setA_halted (s : State) (v : Byte) : (s.setA v).halted = s.halted := rfl
@[simp] theorem State.setA_stall (s : State) (v : Byte) : (s.setA v).stall = s.stall := rfl
@[simp] theorem State.setA_cycles (s : State) (v : Byte) : (s.setA v).cycles = s.cycles := rfl
@[simp] theorem State.setA_apuOwed (s : State) (v : Byte) : (s.setA v).apuOwed = s.apuOwed := rfl
@[simp] theorem State.setA_extraCycles (s : State) (v : Byte) : (s.setA v).extraCycles = s.extraCycles := rfl
@[simp] theorem State.setA_extIrq (s : State) (v : Byte) : (s.setA v).extIrq = s.extIrq := rfl
@[simp] theorem State.setA_ram (s : State) (v : Byte) : (s.setA v).ram = s.ram := rfl
@[simp] theorem State.setA_cart (s : State) (v : Byte) : (s.setA v).cart = s.cart := rfl
@[simp] theorem State.setA_apu (s : State) (v : Byte) : (s.setA v).apu = s.apu := rfl
@[simp] theorem State.setA_params (s : State) (v : Byte) : (s.setA v).params = s.params := rfl
@[simp] theorem State.setA_boundaries (s : State) (v : Byte) : (s.setA v).boundaries = s.boundaries := rfl
@[simp] theorem State.setA_portInputs (s : State) (v : Byte) : (s.setA v).portInputs = s.portInputs := rfl
@[simp] theorem State.setA_outputs (s : State) (v : Byte) : (s.setA v).outputs = s.outputs := rfl
@[simp] theorem State.setA_draws (s : State) (v : Byte) : (s.setA v).draws = s.draws := rfl

@[simp] theorem State.setX_a (s : State) (v : Byte) : (s.setX v).a = s.a := rfl
@[simp] theorem State.setX_x (s : State) (v : Byte) : (s.setX v).x = v := rfl
@[simp] theorem State.setX_y (s : State) (v : Byte) : (s.setX v).y = s.y := rfl
@[simp] theorem State.setX_sp (s : State) (v : Byte) : (s.setX v).sp = s.sp := rfl
@[simp] theorem State.setX_pc (s : State) (v : Byte) : (s.setX v).pc = s.pc := rfl
@[simp] theorem State.setX_flags (s : State) (v : Byte) : (s.setX v).flags = s.flags := rfl
@[simp] theorem State.setX_nmiPending (s : State) (v : Byte) : (s.setX v).nmiPending = s.nmiPending := rfl
@[simp] theorem State.setX_halted (s : State) (v : Byte) : (s.setX v).halted = s.halted := rfl
@[simp] theorem State.setX_stall (s : State) (v : Byte) : (s.setX v).stall = s.stall := rfl
@[simp] theorem State.setX_cycles (s : State) (v : Byte) : (s.setX v).cycles = s.cycles := rfl
@[simp] theorem State.setX_apuOwed (s : State) (v : Byte) : (s.setX v).apuOwed = s.apuOwed := rfl
@[simp] theorem State.setX_extraCycles (s : State) (v : Byte) : (s.setX v).extraCycles = s.extraCycles := rfl
@[simp] theorem State.setX_extIrq (s : State) (v : Byte) : (s.setX v).extIrq = s.extIrq := rfl
@[simp] theorem State.setX_ram (s : State) (v : Byte) : (s.setX v).ram = s.ram := rfl
@[simp] theorem State.setX_cart (s : State) (v : Byte) : (s.setX v).cart = s.cart := rfl
@[simp] theorem State.setX_apu (s : State) (v : Byte) : (s.setX v).apu = s.apu := rfl
@[simp] theorem State.setX_params (s : State) (v : Byte) : (s.setX v).params = s.params := rfl
@[simp] theorem State.setX_boundaries (s : State) (v : Byte) : (s.setX v).boundaries = s.boundaries := rfl
@[simp] theorem State.setX_portInputs (s : State) (v : Byte) : (s.setX v).portInputs = s.portInputs := rfl
@[simp] theorem State.setX_outputs (s : State) (v : Byte) : (s.setX v).outputs = s.outputs := rfl
@[simp] theorem State.setX_draws (s : State) (v : Byte) : (s.setX v).draws = s.draws := rfl

@[simp] theorem State.setY_a (s : State) (v : Byte) : (s.setY v).a = s.a := rfl
@[simp] theorem State.setY_x (s : State) (v : Byte) : (s.setY v).x = s.x := rfl
@[simp] theorem State.setY_y (s : State) (v : Byte) : (s.setY v).y = v := rfl
@[simp] theorem State.setY_sp (s : State) (v : Byte) : (s.setY v).sp = s.sp := rfl
@[simp] theorem State.setY_pc (s : State) (v : Byte) : (s.setY v).pc = s.pc := rfl
@[simp] theorem State.setY_flags (s : State) (v : Byte) : (s.setY v).flags = s.flags := rfl
@[simp] theorem State.setY_nmiPending (s : State) (v : Byte) : (s.setY v).nmiPending = s.nmiPending := rfl
@[simp] theorem State.setY_halted (s : State) (v : Byte) : (s.setY v).halted = s.halted := rfl
@[simp] theorem State.setY_stall (s : State) (v : Byte) : (s.setY v).stall = s.stall := rfl
@[simp] theorem State.setY_cycles (s : State) (v : Byte) : (s.setY v).cycles = s.cycles := rfl
@[simp] theorem State.setY_apuOwed (s : State) (v : Byte) : (s.setY v).apuOwed = s.apuOwed := rfl
@[simp] theorem State.setY_extraCycles (s : State) (v : Byte) : (s.setY v).extraCycles = s.extraCycles := rfl
@[simp] theorem State.setY_extIrq (s : State) (v : Byte) : (s.setY v).extIrq = s.extIrq := rfl
@[simp] theorem State.setY_ram (s : State) (v : Byte) : (s.setY v).ram = s.ram := rfl
@[simp] theorem State.setY_cart (s : State) (v : Byte) : (s.setY v).cart = s.cart := rfl
@[simp] theorem State.setY_apu (s : State) (v : Byte) : (s.setY v).apu = s.apu := rfl
@[simp] theorem State.setY_params (s : State) (v : Byte) : (s.setY v).params = s.params := rfl
@[simp] theorem State.setY_boundaries (s : State) (v : Byte) : (s.setY v).boundaries = s.boundaries := rfl
@[simp] theorem State.setY_portInputs (s : State) (v : Byte) : (s.setY v).portInputs = s.portInputs := rfl
@[simp] theorem State.setY_outputs (s : State) (v : Byte) : (s.setY v).outputs = s.outputs := rfl
@[simp] theorem State.setY_draws (s : State) (v : Byte) : (s.setY v).draws = s.draws := rfl

@[simp] theorem State.setSp_a (s : State) (v : Byte) : (s.setSp v).a = s.a := rfl
@[simp] theorem State.setSp_x (s : State) (v : Byte) : (s.setSp v).x = s.x := rfl
@[simp] theorem State.setSp_y (s : State) (v : Byte) : (s.setSp v).y = s.y := rfl
@[simp] theorem State.setSp_sp (s : State) (v : Byte) : (s.setSp v).sp = v := rfl
@[simp] theorem State.setSp_pc (s : State) (v : Byte) : (s.setSp v).pc = s.pc := rfl
@[simp] theorem State.setSp_flags (s : State) (v : Byte) : (s.setSp v).flags = s.flags := rfl
@[simp] theorem State.setSp_nmiPending (s : State) (v : Byte) : (s.setSp v).nmiPending = s.nmiPending := rfl
@[simp] theorem State.setSp_halted (s : State) (v : Byte) : (s.setSp v).halted = s.halted := rfl
@[simp] theorem State.setSp_stall (s : State) (v : Byte) : (s.setSp v).stall = s.stall := rfl
@[simp] theorem State.setSp_cycles (s : State) (v : Byte) : (s.setSp v).cycles = s.cycles := rfl
@[simp] theorem State.setSp_apuOwed (s : State) (v : Byte) : (s.setSp v).apuOwed = s.apuOwed := rfl
@[simp] theorem State.setSp_extraCycles (s : State) (v : Byte) : (s.setSp v).extraCycles = s.extraCycles := rfl
@[simp] theorem State.setSp_extIrq (s : State) (v : Byte) : (s.setSp v).extIrq = s.extIrq := rfl
@[simp] theorem State.setSp_ram (s : State) (v : Byte) : (s.setSp v).ram = s.ram := rfl
@[simp] theorem State.setSp_cart (s : State) (v : Byte) : (s.setSp v).cart = s.cart := rfl
@[simp] theorem State.setSp_apu (s : State) (v : Byte) : (s.setSp v).apu = s.apu := rfl
@[simp] theorem State.setSp_params (s : State) (v : Byte) : (s.setSp v).params = s.params := rfl
@[simp] theorem State.setSp_boundaries (s : State) (v : Byte) : (s.setSp v).boundaries = s.boundaries := rfl
@[simp] theorem State.setSp_portInputs (s : State) (v : Byte) : (s.setSp v).portInputs = s.portInputs := rfl
@[simp] theorem State.setSp_outputs (s : State) (v : Byte) : (s.setSp v).outputs = s.outputs := rfl
@[simp] theorem State.setSp_draws (s : State) (v : Byte) : (s.setSp v).draws = s.draws := rfl

@[simp] theorem State.setPc_a (s : State) (w : Word) : (s.setPc w).a = s.a := rfl
@[simp] theorem State.setPc_x (s : State) (w : Word) : (s.setPc w).x = s.x := rfl
@[simp] theorem State.setPc_y (s : State) (w : Word) : (s.setPc w).y = s.y := rfl
@[simp] theorem State.setPc_sp (s : State) (w : Word) : (s.setPc w).sp = s.sp := rfl
@[simp] theorem State.setPc_pc (s : State) (w : Word) : (s.setPc w).pc = w := rfl
@[simp] theorem State.setPc_flags (s : State) (w : Word) : (s.setPc w).flags = s.flags := rfl
@[simp] theorem State.setPc_nmiPending (s : State) (w : Word) : (s.setPc w).nmiPending = s.nmiPending := rfl
@[simp] theorem State.setPc_halted (s : State) (w : Word) : (s.setPc w).halted = s.halted := rfl
@[simp] theorem State.setPc_stall (s : State) (w : Word) : (s.setPc w).stall = s.stall := rfl
@[simp] theorem State.setPc_cycles (s : State) (w : Word) : (s.setPc w).cycles = s.cycles := rfl
@[simp] theorem State.setPc_apuOwed (s : State) (w : Word) : (s.setPc w).apuOwed = s.apuOwed := rfl
@[simp] theorem State.setPc_extraCycles (s : State) (w : Word) : (s.setPc w).extraCycles = s.extraCycles := rfl
@[simp] theorem State.setPc_extIrq (s : State) (w : Word) : (s.setPc w).extIrq = s.extIrq := rfl
@[simp] theorem State.setPc_ram (s : State) (w : Word) : (s.setPc w).ram = s.ram := rfl
@[simp] theorem State.setPc_cart (s : State) (w : Word) : (s.setPc w).cart = s.cart := rfl
@[simp] theorem State.setPc_apu (s : State) (w : Word) : (s.setPc w).apu = s.apu := rfl
@[simp] theorem State.setPc_params (s : State) (w : Word) : (s.setPc w).params = s.params := rfl
@[simp] theorem State.setPc_boundaries (s : State) (w : Word) : (s.setPc w).boundaries = s.boundaries := rfl
@[simp] theorem State.setPc_portInputs (s : State) (w : Word) : (s.setPc w).portInputs = s.portInputs := rfl
@[simp] theorem State.setPc_outputs (s : State) (w : Word) : (s.setPc w).outputs = s.outputs := rfl
@[simp] theorem State.setPc_draws (s : State) (w : Word) : (s.setPc w).draws = s.draws := rfl

@[simp] theorem State.setFlags_a (s : State) (f : Flags) : (s.setFlags f).a = s.a := rfl
@[simp] theorem State.setFlags_x (s : State) (f : Flags) : (s.setFlags f).x = s.x := rfl
@[simp] theorem State.setFlags_y (s : State) (f : Flags) : (s.setFlags f).y = s.y := rfl
@[simp] theorem State.setFlags_sp (s : State) (f : Flags) : (s.setFlags f).sp = s.sp := rfl
@[simp] theorem State.setFlags_pc (s : State) (f : Flags) : (s.setFlags f).pc = s.pc := rfl
@[simp] theorem State.setFlags_flags (s : State) (f : Flags) : (s.setFlags f).flags = f := rfl
@[simp] theorem State.setFlags_nmiPending (s : State) (f : Flags) : (s.setFlags f).nmiPending = s.nmiPending := rfl
@[simp] theorem State.setFlags_halted (s : State) (f : Flags) : (s.setFlags f).halted = s.halted := rfl
@[simp] theorem State.setFlags_stall (s : State) (f : Flags) : (s.setFlags f).stall = s.stall := rfl
@[simp] theorem State.setFlags_cycles (s : State) (f : Flags) : (s.setFlags f).cycles = s.cycles := rfl
@[simp] theorem State.setFlags_apuOwed (s : State) (f : Flags) : (s.setFlags f).apuOwed = s.apuOwed := rfl
@[simp] theorem State.setFlags_extraCycles (s : State) (f : Flags) : (s.setFlags f).extraCycles = s.extraCycles := rfl
@[simp] theorem State.setFlags_extIrq (s : State) (f : Flags) : (s.setFlags f).extIrq = s.extIrq := rfl
@[simp] theorem State.setFlags_ram (s : State) (f : Flags) : (s.setFlags f).ram = s.ram := rfl
@[simp] theorem State.setFlags_cart (s : State) (f : Flags) : (s.setFlags f).cart = s.cart := rfl
@[simp] theorem State.setFlags_apu (s : State) (f : Flags) : (s.setFlags f).apu = s.apu := rfl
@[simp] theorem State.setFlags_params (s : State) (f : Flags) : (s.setFlags f).params = s.params := rfl
@[simp] theorem State.setFlags_boundaries (s : State) (f : Flags) : (s.setFlags f).boundaries = s.boundaries := rfl
@[simp] theorem State.setFlags_portInputs (s : State) (f : Flags) : (s.setFlags f).portInputs = s.portInputs := rfl
@[simp] theorem State.setFlags_outputs (s : State) (f : Flags) : (s.setFlags f).outputs = s.outputs := rfl
@[simp] theorem State.setFlags_draws (s : State) (f : Flags) : (s.setFlags f).draws = s.draws := rfl

@[simp] theorem State.advance_a (s : State) (n : Nat) : (s.advance n).a = s.a := rfl
@[simp] theorem State.advance_x (s : State) (n : Nat) : (s.advance n).x = s.x := rfl
@[simp] theorem State.advance_y (s : State) (n : Nat) : (s.advance n).y = s.y := rfl
@[simp] theorem State.advance_sp (s : State) (n : Nat) : (s.advance n).sp = s.sp := rfl
@[simp] theorem State.advance_pc (s : State) (n : Nat) : (s.advance n).pc = s.pc + BitVec.ofNat 16 n := rfl
@[simp] theorem State.advance_flags (s : State) (n : Nat) : (s.advance n).flags = s.flags := rfl
@[simp] theorem State.advance_nmiPending (s : State) (n : Nat) : (s.advance n).nmiPending = s.nmiPending := rfl
@[simp] theorem State.advance_halted (s : State) (n : Nat) : (s.advance n).halted = s.halted := rfl
@[simp] theorem State.advance_stall (s : State) (n : Nat) : (s.advance n).stall = s.stall := rfl
@[simp] theorem State.advance_cycles (s : State) (n : Nat) : (s.advance n).cycles = s.cycles := rfl
@[simp] theorem State.advance_apuOwed (s : State) (n : Nat) : (s.advance n).apuOwed = s.apuOwed := rfl
@[simp] theorem State.advance_extraCycles (s : State) (n : Nat) : (s.advance n).extraCycles = s.extraCycles := rfl
@[simp] theorem State.advance_extIrq (s : State) (n : Nat) : (s.advance n).extIrq = s.extIrq := rfl
@[simp] theorem State.advance_ram (s : State) (n : Nat) : (s.advance n).ram = s.ram := rfl
@[simp] theorem State.advance_cart (s : State) (n : Nat) : (s.advance n).cart = s.cart := rfl
@[simp] theorem State.advance_apu (s : State) (n : Nat) : (s.advance n).apu = s.apu := rfl
@[simp] theorem State.advance_params (s : State) (n : Nat) : (s.advance n).params = s.params := rfl
@[simp] theorem State.advance_boundaries (s : State) (n : Nat) : (s.advance n).boundaries = s.boundaries := rfl
@[simp] theorem State.advance_portInputs (s : State) (n : Nat) : (s.advance n).portInputs = s.portInputs := rfl
@[simp] theorem State.advance_outputs (s : State) (n : Nat) : (s.advance n).outputs = s.outputs := rfl
@[simp] theorem State.advance_draws (s : State) (n : Nat) : (s.advance n).draws = s.draws := rfl

@[simp] theorem State.deliver_a (s : State) (o : Output) : (s.deliver o).a = s.a := rfl
@[simp] theorem State.deliver_x (s : State) (o : Output) : (s.deliver o).x = s.x := rfl
@[simp] theorem State.deliver_y (s : State) (o : Output) : (s.deliver o).y = s.y := rfl
@[simp] theorem State.deliver_sp (s : State) (o : Output) : (s.deliver o).sp = s.sp := rfl
@[simp] theorem State.deliver_pc (s : State) (o : Output) : (s.deliver o).pc = s.pc := rfl
@[simp] theorem State.deliver_flags (s : State) (o : Output) : (s.deliver o).flags = s.flags := rfl
@[simp] theorem State.deliver_nmiPending (s : State) (o : Output) : (s.deliver o).nmiPending = s.nmiPending := rfl
@[simp] theorem State.deliver_halted (s : State) (o : Output) : (s.deliver o).halted = s.halted := rfl
@[simp] theorem State.deliver_stall (s : State) (o : Output) : (s.deliver o).stall = s.stall := rfl
@[simp] theorem State.deliver_cycles (s : State) (o : Output) : (s.deliver o).cycles = s.cycles := rfl
@[simp] theorem State.deliver_apuOwed (s : State) (o : Output) : (s.deliver o).apuOwed = s.apuOwed := rfl
@[simp] theorem State.deliver_extraCycles (s : State) (o : Output) : (s.deliver o).extraCycles = s.extraCycles := rfl
@[simp] theorem State.deliver_extIrq (s : State) (o : Output) : (s.deliver o).extIrq = s.extIrq := rfl
@[simp] theorem State.deliver_ram (s : State) (o : Output) : (s.deliver o).ram = s.ram := rfl
@[simp] theorem State.deliver_cart (s : State) (o : Output) : (s.deliver o).cart = s.cart := rfl
@[simp] theorem State.deliver_apu (s : State) (o : Output) : (s.deliver o).apu = s.apu := rfl
@[simp] theorem State.deliver_params (s : State) (o : Output) : (s.deliver o).params = s.params := rfl
@[simp] theorem State.deliver_boundaries (s : State) (o : Output) : (s.deliver o).boundaries = s.boundaries := rfl
@[simp] theorem State.deliver_portInputs (s : State) (o : Output) : (s.deliver o).portInputs = s.portInputs := rfl
@[simp] theorem State.deliver_outputs (s : State) (o : Output) : (s.deliver o).outputs = o :: s.outputs := rfl
@[simp] theorem State.deliver_draws (s : State) (o : Output) : (s.deliver o).draws = s.draws := rfl

@[simp] theorem State.finish_a (s : State) (n : Nat) : (finish n s).a = s.a := rfl
@[simp] theorem State.finish_x (s : State) (n : Nat) : (finish n s).x = s.x := rfl
@[simp] theorem State.finish_y (s : State) (n : Nat) : (finish n s).y = s.y := rfl
@[simp] theorem State.finish_sp (s : State) (n : Nat) : (finish n s).sp = s.sp := rfl
@[simp] theorem State.finish_pc (s : State) (n : Nat) : (finish n s).pc = s.pc := rfl
@[simp] theorem State.finish_flags (s : State) (n : Nat) : (finish n s).flags = s.flags := rfl
@[simp] theorem State.finish_nmiPending (s : State) (n : Nat) : (finish n s).nmiPending = s.nmiPending := rfl
@[simp] theorem State.finish_halted (s : State) (n : Nat) : (finish n s).halted = s.halted := rfl
@[simp] theorem State.finish_stall (s : State) (n : Nat) : (finish n s).stall = 0 := rfl
@[simp] theorem State.finish_cycles (s : State) (n : Nat) : (finish n s).cycles = s.cycles + s.stepCycles n := rfl
@[simp] theorem State.finish_apuOwed (s : State) (n : Nat) : (finish n s).apuOwed = s.stepCycles n := rfl
@[simp] theorem State.finish_extraCycles (s : State) (n : Nat) : (finish n s).extraCycles = 0 := rfl
@[simp] theorem State.finish_extIrq (s : State) (n : Nat) : (finish n s).extIrq = s.extIrq := rfl
@[simp] theorem State.finish_ram (s : State) (n : Nat) : (finish n s).ram = s.ram := rfl
@[simp] theorem State.finish_cart (s : State) (n : Nat) : (finish n s).cart = s.cart := rfl
@[simp] theorem State.finish_apu (s : State) (n : Nat) : (finish n s).apu = s.apu := rfl
@[simp] theorem State.finish_params (s : State) (n : Nat) : (finish n s).params = s.params := rfl
@[simp] theorem State.finish_boundaries (s : State) (n : Nat) : (finish n s).boundaries = s.boundaries := rfl
@[simp] theorem State.finish_portInputs (s : State) (n : Nat) : (finish n s).portInputs = s.portInputs := rfl
@[simp] theorem State.finish_outputs (s : State) (n : Nat) : (finish n s).outputs = s.outputs := rfl
@[simp] theorem State.finish_draws (s : State) (n : Nat) : (finish n s).draws = s.draws := rfl

@[simp] theorem State.raiseFatal_a (s : State) (e : FatalError) : (raiseFatal e s).a = s.a := rfl
@[simp] theorem State.raiseFatal_x (s : State) (e : FatalError) : (raiseFatal e s).x = s.x := rfl
@[simp] theorem State.raiseFatal_y (s : State) (e : FatalError) : (raiseFatal e s).y = s.y := rfl
@[simp] theorem State.raiseFatal_sp (s : State) (e : FatalError) : (raiseFatal e s).sp = s.sp := rfl
@[simp] theorem State.raiseFatal_pc (s : State) (e : FatalError) : (raiseFatal e s).pc = s.pc := rfl
@[simp] theorem State.raiseFatal_flags (s : State) (e : FatalError) : (raiseFatal e s).flags = s.flags := rfl
@[simp] theorem State.raiseFatal_nmiPending (s : State) (e : FatalError) : (raiseFatal e s).nmiPending = s.nmiPending := rfl
@[simp] theorem State.raiseFatal_halted (s : State) (e : FatalError) : (raiseFatal e s).halted = some { error := e, pc := s.pc, a := s.a, x := s.x, y := s.y, sp := s.sp, p := s.p } := rfl
@[simp] theorem State.raiseFatal_stall (s : State) (e : FatalError) : (raiseFatal e s).stall = s.stall := rfl
@[simp] theorem State.raiseFatal_cycles (s : State) (e : FatalError) : (raiseFatal e s).cycles = s.cycles := rfl
@[simp] theorem State.raiseFatal_apuOwed (s : State) (e : FatalError) : (raiseFatal e s).apuOwed = s.apuOwed := rfl
@[simp] theorem State.raiseFatal_extraCycles (s : State) (e : FatalError) : (raiseFatal e s).extraCycles = s.extraCycles := rfl
@[simp] theorem State.raiseFatal_extIrq (s : State) (e : FatalError) : (raiseFatal e s).extIrq = s.extIrq := rfl
@[simp] theorem State.raiseFatal_ram (s : State) (e : FatalError) : (raiseFatal e s).ram = s.ram := rfl
@[simp] theorem State.raiseFatal_cart (s : State) (e : FatalError) : (raiseFatal e s).cart = s.cart := rfl
@[simp] theorem State.raiseFatal_apu (s : State) (e : FatalError) : (raiseFatal e s).apu = s.apu := rfl
@[simp] theorem State.raiseFatal_params (s : State) (e : FatalError) : (raiseFatal e s).params = s.params := rfl
@[simp] theorem State.raiseFatal_boundaries (s : State) (e : FatalError) : (raiseFatal e s).boundaries = s.boundaries := rfl
@[simp] theorem State.raiseFatal_portInputs (s : State) (e : FatalError) : (raiseFatal e s).portInputs = s.portInputs := rfl
@[simp] theorem State.raiseFatal_outputs (s : State) (e : FatalError) : (raiseFatal e s).outputs = s.outputs := rfl
@[simp] theorem State.raiseFatal_draws (s : State) (e : FatalError) : (raiseFatal e s).draws = s.draws := rfl

@[simp] theorem State.withReads_a (s : State) (u : State) : (s.withReads u).a = s.a := rfl
@[simp] theorem State.withReads_x (s : State) (u : State) : (s.withReads u).x = s.x := rfl
@[simp] theorem State.withReads_y (s : State) (u : State) : (s.withReads u).y = s.y := rfl
@[simp] theorem State.withReads_sp (s : State) (u : State) : (s.withReads u).sp = s.sp := rfl
@[simp] theorem State.withReads_pc (s : State) (u : State) : (s.withReads u).pc = s.pc := rfl
@[simp] theorem State.withReads_flags (s : State) (u : State) : (s.withReads u).flags = s.flags := rfl
@[simp] theorem State.withReads_nmiPending (s : State) (u : State) : (s.withReads u).nmiPending = s.nmiPending := rfl
@[simp] theorem State.withReads_halted (s : State) (u : State) : (s.withReads u).halted = s.halted := rfl
@[simp] theorem State.withReads_stall (s : State) (u : State) : (s.withReads u).stall = s.stall := rfl
@[simp] theorem State.withReads_cycles (s : State) (u : State) : (s.withReads u).cycles = s.cycles := rfl
@[simp] theorem State.withReads_apuOwed (s : State) (u : State) : (s.withReads u).apuOwed = s.apuOwed := rfl
@[simp] theorem State.withReads_extraCycles (s : State) (u : State) : (s.withReads u).extraCycles = s.extraCycles := rfl
@[simp] theorem State.withReads_extIrq (s : State) (u : State) : (s.withReads u).extIrq = s.extIrq := rfl
@[simp] theorem State.withReads_ram (s : State) (u : State) : (s.withReads u).ram = s.ram := rfl
@[simp] theorem State.withReads_cart (s : State) (u : State) : (s.withReads u).cart = s.cart := rfl
@[simp] theorem State.withReads_apu (s : State) (u : State) : (s.withReads u).apu = u.apu := rfl
@[simp] theorem State.withReads_params (s : State) (u : State) : (s.withReads u).params = s.params := rfl
@[simp] theorem State.withReads_boundaries (s : State) (u : State) : (s.withReads u).boundaries = s.boundaries := rfl
@[simp] theorem State.withReads_portInputs (s : State) (u : State) : (s.withReads u).portInputs = u.portInputs := rfl
@[simp] theorem State.withReads_outputs (s : State) (u : State) : (s.withReads u).outputs = u.outputs := rfl
@[simp] theorem State.withReads_draws (s : State) (u : State) : (s.withReads u).draws = u.draws := rfl

@[simp] theorem State.withBus_a (s : State) (u : State) : (s.withBus u).a = s.a := rfl
@[simp] theorem State.withBus_x (s : State) (u : State) : (s.withBus u).x = s.x := rfl
@[simp] theorem State.withBus_y (s : State) (u : State) : (s.withBus u).y = s.y := rfl
@[simp] theorem State.withBus_sp (s : State) (u : State) : (s.withBus u).sp = s.sp := rfl
@[simp] theorem State.withBus_pc (s : State) (u : State) : (s.withBus u).pc = s.pc := rfl
@[simp] theorem State.withBus_flags (s : State) (u : State) : (s.withBus u).flags = s.flags := rfl
@[simp] theorem State.withBus_nmiPending (s : State) (u : State) : (s.withBus u).nmiPending = s.nmiPending := rfl
@[simp] theorem State.withBus_halted (s : State) (u : State) : (s.withBus u).halted = s.halted := rfl
@[simp] theorem State.withBus_stall (s : State) (u : State) : (s.withBus u).stall = s.stall := rfl
@[simp] theorem State.withBus_cycles (s : State) (u : State) : (s.withBus u).cycles = s.cycles := rfl
@[simp] theorem State.withBus_apuOwed (s : State) (u : State) : (s.withBus u).apuOwed = s.apuOwed := rfl
@[simp] theorem State.withBus_extraCycles (s : State) (u : State) : (s.withBus u).extraCycles = s.extraCycles := rfl
@[simp] theorem State.withBus_extIrq (s : State) (u : State) : (s.withBus u).extIrq = s.extIrq := rfl
@[simp] theorem State.withBus_ram (s : State) (u : State) : (s.withBus u).ram = u.ram := rfl
@[simp] theorem State.withBus_cart (s : State) (u : State) : (s.withBus u).cart = u.cart := rfl
@[simp] theorem State.withBus_apu (s : State) (u : State) : (s.withBus u).apu = u.apu := rfl
@[simp] theorem State.withBus_params (s : State) (u : State) : (s.withBus u).params = s.params := rfl
@[simp] theorem State.withBus_boundaries (s : State) (u : State) : (s.withBus u).boundaries = s.boundaries := rfl
@[simp] theorem State.withBus_portInputs (s : State) (u : State) : (s.withBus u).portInputs = u.portInputs := rfl
@[simp] theorem State.withBus_outputs (s : State) (u : State) : (s.withBus u).outputs = u.outputs := rfl
@[simp] theorem State.withBus_draws (s : State) (u : State) : (s.withBus u).draws = u.draws := rfl

@[simp] theorem State.counted_a (s : State) (n : Nat) : (s.counted n).a = s.a := rfl
@[simp] theorem State.counted_x (s : State) (n : Nat) : (s.counted n).x = s.x := rfl
@[simp] theorem State.counted_y (s : State) (n : Nat) : (s.counted n).y = s.y := rfl
@[simp] theorem State.counted_sp (s : State) (n : Nat) : (s.counted n).sp = s.sp := rfl
@[simp] theorem State.counted_pc (s : State) (n : Nat) : (s.counted n).pc = s.pc := rfl
@[simp] theorem State.counted_flags (s : State) (n : Nat) : (s.counted n).flags = s.flags := rfl
@[simp] theorem State.counted_nmiPending (s : State) (n : Nat) : (s.counted n).nmiPending = s.nmiPending := rfl
@[simp] theorem State.counted_halted (s : State) (n : Nat) : (s.counted n).halted = s.halted := rfl
@[simp] theorem State.counted_stall (s : State) (n : Nat) : (s.counted n).stall = 0 := rfl
@[simp] theorem State.counted_cycles (s : State) (n : Nat) : (s.counted n).cycles = s.cycles + n := rfl
@[simp] theorem State.counted_apuOwed (s : State) (n : Nat) : (s.counted n).apuOwed = n := rfl
@[simp] theorem State.counted_extraCycles (s : State) (n : Nat) : (s.counted n).extraCycles = 0 := rfl
@[simp] theorem State.counted_extIrq (s : State) (n : Nat) : (s.counted n).extIrq = s.extIrq := rfl
@[simp] theorem State.counted_ram (s : State) (n : Nat) : (s.counted n).ram = s.ram := rfl
@[simp] theorem State.counted_cart (s : State) (n : Nat) : (s.counted n).cart = s.cart := rfl
@[simp] theorem State.counted_apu (s : State) (n : Nat) : (s.counted n).apu = s.apu := rfl
@[simp] theorem State.counted_params (s : State) (n : Nat) : (s.counted n).params = s.params := rfl
@[simp] theorem State.counted_boundaries (s : State) (n : Nat) : (s.counted n).boundaries = s.boundaries := rfl
@[simp] theorem State.counted_portInputs (s : State) (n : Nat) : (s.counted n).portInputs = s.portInputs := rfl
@[simp] theorem State.counted_outputs (s : State) (n : Nat) : (s.counted n).outputs = s.outputs := rfl
@[simp] theorem State.counted_draws (s : State) (n : Nat) : (s.counted n).draws = s.draws := rfl

end Sys2Proof.Machine
end

