-- ==== Sys2Proof/Laws/Bus.lean ====
section
/-! SUPPORT. What a bus access can do: a read changes only what `State.withReads` names, a write only what `State.withBus` names
and the cycles of a DMA; and what both do to the memory a program can see. -/

namespace Sys2Proof.Machine

theorem ReadsOnly.refl (s : State) : ReadsOnly s s := rfl

theorem ReadsOnly.trans {s t u : State} (h : ReadsOnly s t) (k : ReadsOnly t u) : ReadsOnly s u := by
  unfold ReadsOnly at *
  rw [k, h]; rfl

/-- A read through `State.withReads` cannot tell which state its other fields came from. -/
theorem State.withReads_withReads (s t u : State) : (s.withReads t).withReads u = s.withReads u := rfl

theorem ReadsOnly.setPc {s t : State} (h : ReadsOnly s t) (w : Word) : ReadsOnly (s.setPc w) (t.setPc w) := by
  unfold ReadsOnly at *; rw [h]; rfl

theorem readOpenBus_readsOnly (s : State) : ReadsOnly s (readOpenBus s).2 := rfl

theorem nextPortByte_readsOnly (s : State) : ReadsOnly s (nextPortByte s).2 := by
  unfold nextPortByte
  split <;> rfl

theorem readPort_readsOnly (f : Byte → Output) (s : State) : ReadsOnly s (readPort f s).2 :=
  (nextPortByte_readsOnly s).trans rfl

/-- A bus read changes nothing but what `State.withReads` names. -/
theorem busRead_readsOnly (addr : Word) (s : State) : ReadsOnly s (busRead addr s).2 := by
  unfold busRead
  split
  · rfl
  · exact readPort_readsOnly _ s
  · rfl
  · exact readPort_readsOnly _ s
  · exact readPort_readsOnly _ s
  · exact readOpenBus_readsOnly s
  · exact readOpenBus_readsOnly s
  · exact readOpenBus_readsOnly s
  · split
    · rfl
    · exact readOpenBus_readsOnly s

theorem dmaReads_readsOnly (page : Byte) (n i : Nat) (s : State) : ReadsOnly s (dmaReads page i n s).2 := by
  induction n generalizing i s with
  | zero => rfl
  | succ n ih => exact (busRead_readsOnly _ s).trans (ih _ _)

theorem read16_readsOnly (addr : Word) (s : State) : ReadsOnly s (read16 addr s).2 :=
  (busRead_readsOnly _ s).trans (busRead_readsOnly _ _)

theorem read16Bug_readsOnly (addr : Word) (s : State) : ReadsOnly s (read16Bug addr s).2 :=
  (busRead_readsOnly _ s).trans (busRead_readsOnly _ _)

/-- Memory looks the same after bus reads. -/
theorem ReadsOnly.sameMemory {s t : State} (h : ReadsOnly s t) : SameMemory s t := by
  intro addr; unfold ReadsOnly at h; rw [h]; rfl

/-- Where storage answers, a bus read gives the byte `State.peek` shows and has no side effect. -/
theorem busRead_of_peek {addr : Word} {s : State} {v : Byte} (h : s.peek addr = some v) : busRead addr s = (v, s) := by
  unfold State.peek at h
  unfold busRead
  split at h
  · next hr => rw [hr]; simp only [Option.some.injEq] at h; rw [← h]
  · next hr => rw [hr]; simp only [h]
  · exact absurd h (by simp)

/-- The DMA's reads, run along the states `t` between them (R58). -/
theorem dmaReads_chain (page : Byte) (n i : Nat) (t : Nat → State)
    (h : ∀ k, k < n → t (i + k + 1) = (busRead (word page (BitVec.ofNat 8 (i + k))) (t (i + k))).2) :
    dmaReads page i n (t i) =
      ((List.range n).map fun k => (busRead (word page (BitVec.ofNat 8 (i + k))) (t (i + k))).1, t (i + n)) := by
  induction n generalizing i with
  | zero => rfl
  | succ n ih =>
    have h0 := h 0 (Nat.succ_pos n)
    simp only [Nat.add_zero] at h0
    have hs := ih (i + 1) (fun k hk => by rw [show i + 1 + k = i + (k + 1) by omega]; exact h (k + 1) (by omega))
    unfold dmaReads
    dsimp only
    rw [← h0, hs, List.range_succ_eq_map, List.map_cons, List.map_map]
    simp only [Nat.add_zero, Function.comp_def, Nat.succ_eq_add_one, Nat.add_assoc, Nat.add_comm 1]

/-- A sprite DMA reads, records the page and costs its cycles; nothing else (R58). -/
theorem spriteDma_spec (page : Byte) (s : State) : ∃ t bytes, ReadsOnly s t ∧
    spriteDma page s =
      { t with outputs := .spriteDma bytes :: t.outputs, extraCycles := t.extraCycles + dmaCycles s.cycles } :=
  ⟨(dmaReads page 0 256 s).2, (dmaReads page 0 256 s).1, dmaReads_readsOnly page 256 0 s, by unfold spriteDma; rfl⟩

/-- `t` is `s` after a bus write: nothing differs but what `State.withBus` names and the DMA cycles. -/
def WritesOnly (s t : State) : Prop := t = { s.withBus t with extraCycles := t.extraCycles }

theorem spriteDma_writesOnly (page : Byte) (s : State) : WritesOnly s (spriteDma page s) := by
  obtain ⟨t, bytes, ht, he⟩ := spriteDma_spec page s
  unfold ReadsOnly at ht
  unfold WritesOnly
  rw [he, ht]
  rfl

theorem writeAudio_writesOnly (a : Word) (v : Byte) (s : State) : WritesOnly s (writeAudio a v s) := by
  unfold WritesOnly writeAudio
  generalize s.apu.regWrite (a.toNat % 0x20) v = u
  rfl

/-- A bus write changes nothing but what `State.withBus` names and the DMA cycles. -/
theorem busWrite_writesOnly (addr : Word) (v : Byte) (s : State) : WritesOnly s (busWrite addr v s) := by
  unfold busWrite
  split
  · rfl
  · rfl
  · exact writeAudio_writesOnly addr v s
  · exact writeAudio_writesOnly addr v s
  · exact writeAudio_writesOnly addr v s
  · exact spriteDma_writesOnly v s
  · rfl
  · rfl
  · rfl

theorem region_ram {a : Word} (h : a.toNat < 0x2000) : region a = .ram := by simp [region, h]

theorem region_eq_ram {a : Word} : region a = .ram ↔ a.toNat < 0x2000 := by
  unfold region
  repeat' split
  all_goals simp_all

theorem region_eq_cartridge {a : Word} : region a = .cartridge ↔ 0x6000 ≤ a.toNat := by
  unfold region
  repeat' split
  all_goals simp_all
  all_goals omega

theorem region_cartridge {a : Word} (h : 0x6000 ≤ a.toNat) : region a = .cartridge := region_eq_cartridge.2 h

/-- What `State.peek` shows, by address. -/
theorem State.peek_eq (s : State) (a : Word) :
    s.peek a = if a.toNat < 0x2000 then some (s.ram.read (a.toNat % 2048))
      else if 0x6000 ≤ a.toNat then s.cart.cpuRead a else none := by
  unfold State.peek
  split
  · next h => rw [region_eq_ram] at h; simp [h, ramOffset, ramSize]
  · next h => rw [region_eq_cartridge] at h; simp [h, show ¬ a.toNat < 0x2000 by omega]
  · next h1 h2 =>
    have h3 : ¬ a.toNat < 0x2000 := fun h => h1 (region_eq_ram.2 h)
    have h4 : ¬ 0x6000 ≤ a.toNat := fun h => h2 (region_eq_cartridge.2 h)
    simp [h3, h4]

theorem peek_congr {s t : State} (hr : t.ram = s.ram) (hc : t.cart = s.cart) (a : Word) : t.peek a = s.peek a := by
  simp only [State.peek_eq, hr, hc]

/-- A write below 0x6000 but above RAM leaves RAM and the cartridge alone. -/
theorem busWrite_elsewhere {a : Word} (v : Byte) (s : State) (h1 : 0x2000 ≤ a.toNat) (h2 : a.toNat < 0x6000) :
    (busWrite a v s).ram = s.ram ∧ (busWrite a v s).cart = s.cart := by
  unfold busWrite writeAudio
  generalize s.apu.regWrite (a.toNat % 0x20) v = u
  split
  · next h => rw [region_eq_ram] at h; omega
  · exact ⟨rfl, rfl⟩
  · exact ⟨rfl, rfl⟩
  · exact ⟨rfl, rfl⟩
  · exact ⟨rfl, rfl⟩
  · obtain ⟨t, bytes, ht, he⟩ := spriteDma_spec v s
    unfold ReadsOnly at ht
    rw [he, ht]
    exact ⟨rfl, rfl⟩
  · exact ⟨rfl, rfl⟩
  · exact ⟨rfl, rfl⟩
  · next h => rw [region_eq_cartridge] at h; omega

theorem busWrite_ram {a : Word} (v : Byte) (s : State) (h : a.toNat < 0x2000) :
    busWrite a v s = { s with ram := s.ram.write (a.toNat % 2048) v } := by
  unfold busWrite; rw [region_ram h]; rfl

theorem busWrite_cartridge {a : Word} (v : Byte) (s : State) (h : 0x6000 ≤ a.toNat) :
    busWrite a v s = { s with cart := s.cart.cpuWrite a v } := by
  unfold busWrite; rw [region_cartridge h]

theorem word_toNat (h l : Byte) : (word h l).toNat = 256 * h.toNat + l.toNat := by
  have hl := l.isLt
  show (h ++ l : BitVec (8 + 8)).toNat = _
  rw [BitVec.toNat_append, ← Nat.shiftLeft_add_eq_or_of_lt hl, Nat.shiftLeft_eq]
  omega

theorem stackAddr_toNat (sp : Byte) : (stackAddr sp).toNat = 256 + sp.toNat := by
  rw [stackAddr, word_toNat]; rfl

/-- A push stores in RAM, in page 1 (R62). -/
theorem push_eq (v : Byte) (s : State) :
    push v s = { s with ram := s.ram.write (256 + s.sp.toNat) v, sp := s.sp - 1 } := by
  have := s.sp.isLt
  have h := stackAddr_toNat s.sp
  unfold push
  rw [busWrite_ram v s (by omega), h, Nat.mod_eq_of_lt (by omega)]
  rfl

/-- A pop reads RAM, in page 1 (R63). -/
theorem pop_eq (s : State) : pop s = (s.ram.read (256 + (s.sp + 1).toNat), { s with sp := s.sp + 1 }) := by
  have := (s.sp + 1).isLt
  have h := stackAddr_toNat (s.sp + 1)
  unfold pop busRead
  rw [region_ram (by omega)]
  simp only [ramOffset, ramSize, h]
  rw [Nat.mod_eq_of_lt (by omega)]
  rfl

end Sys2Proof.Machine
end

