-- ==== Sys2Proof/Laws/Flags.lean ====
section
/-! SUPPORT. The flag computations and the status byte in the numbers that claims speak of. -/

namespace Sys2Proof.Machine

theorem getLsbD_seven (v : Byte) : v.getLsbD 7 = decide (128 ≤ v.toNat) := by
  have h := v.isLt
  rw [BitVec.getLsbD, Nat.testBit_eq_decide_div_mod_eq]
  congr 1
  apply propext
  omega

theorem getLsbD_zero (v : Byte) : v.getLsbD 0 = decide (v.toNat % 2 = 1) := by
  rw [BitVec.getLsbD, Nat.testBit_eq_decide_div_mod_eq]
  simp

theorem beq_zero (v : Byte) : (v == 0) = decide (v.toNat = 0) := by
  show decide (v = 0) = _
  congr 1
  apply propext
  constructor
  · rintro rfl; rfl
  · intro h; exact BitVec.eq_of_toNat_eq h

/-- `setZN` in numbers. -/
theorem setZN_eq (v : Byte) (f : Flags) : setZN v f = f.withZN v := by
  simp only [setZN, Flags.withZN, beq_zero, getLsbD_seven]

/-- The flags of a comparison in numbers. -/
theorem compareFlags_eq (r m : Byte) (f : Flags) : compareFlags r m f = f.compared r m := by
  simp only [compareFlags, Flags.compared, getLsbD_seven]
  rfl

/-- The result of an addition in numbers. -/
theorem addResult_eq (a m : Byte) (c : Bool) : addResult a m c = sumByte a m c := by
  cases c <;> rfl

/-- The flags of an addition in numbers. -/
theorem addFlags_eq (a m : Byte) (f : Flags) : addFlags a m f = f.added a m := by
  unfold addFlags Flags.added
  simp only [setZN_eq, addResult_eq]
  unfold addCarry addOverflow sumOf
  have h : (decide (256 ≤ a.toNat + m.toNat + f.c.toNat)) = decide (255 < a.toNat + m.toNat + if f.c = true then 1 else 0) := by
    congr 1
    apply propext
    cases f.c
    · simp only [Bool.toNat_false, Bool.false_eq_true, if_false]; omega
    · simp only [Bool.toNat_true, if_true]; omega
  rw [h]

/-- The one's complement in numbers. -/
theorem complement_eq (m : Byte) : complement m = BitVec.ofNat 8 (255 - m.toNat) := by
  have h := m.isLt
  have h1 : complement m = ~~~m := by
    unfold complement
    rw [show (0xFF : Byte) = BitVec.allOnes 8 from rfl, BitVec.xor_allOnes]
  rw [h1]
  apply BitVec.eq_of_toNat_eq
  rw [BitVec.toNat_not, BitVec.toNat_ofNat, Nat.mod_eq_of_lt (by omega)]

theorem shiftLeft_eq (v : Byte) : shiftLeft v = BitVec.ofNat 8 (2 * v.toNat) := by
  apply BitVec.eq_of_toNat_eq
  simp [shiftLeft, BitVec.toNat_shiftLeft, Nat.shiftLeft_eq]
  omega

theorem shiftRight_eq (v : Byte) : shiftRight v = BitVec.ofNat 8 (v.toNat / 2) := by
  have h := v.isLt
  apply BitVec.eq_of_toNat_eq
  simp [shiftRight, BitVec.toNat_ushiftRight, Nat.shiftRight_eq_div_pow]
  omega

theorem rotateLeft_eq (c : Bool) (v : Byte) : rotateLeft c v = BitVec.ofNat 8 (2 * v.toNat + c.toNat) := by
  revert v; cases c <;> decide

theorem rotateRight_eq (c : Bool) (v : Byte) : rotateRight c v = BitVec.ofNat 8 (v.toNat / 2 + 128 * c.toNat) := by
  revert v; cases c <;> decide

theorem inc_eq (v : Byte) : v + 1 = BitVec.ofNat 8 (v.toNat + 1) := by
  apply BitVec.eq_of_toNat_eq; simp

theorem dec_eq (v : Byte) : v - 1 = BitVec.ofNat 8 (v.toNat + 255) := by
  have h := v.isLt
  apply BitVec.eq_of_toNat_eq
  simp [BitVec.toNat_sub]
  omega

/-- The status byte in numbers. -/
theorem pack_eq (b4 : Bool) (f : Flags) : pack b4 f = statusOf b4 f := by
  obtain ⟨c, z, i, d, b, v, n⟩ := f
  revert b4 c z i d b v n
  decide

theorem unpack_eq (v : Byte) : unpack v = flagsOf v := rfl

/-- Unpacking what was packed gives the flags back, with bit 4 for B. -/
theorem unpack_pack (b4 : Bool) (f : Flags) : unpack (pack b4 f) = { f with b := b4 } := by
  obtain ⟨c, z, i, d, b, v, n⟩ := f
  revert b4 c z i d b v n
  decide

end Sys2Proof.Machine
end

