-- ==== Sys2Proof/Laws/Forms.lean ====
section
/-! SUPPORT. One spec lemma per shape of instruction: what its meaning is in terms of the form written out in Safety.lean, and that
resolving and reading change nothing but what `State.withReads` names. The provers cite these instead of unfolding a meaning. -/

namespace Sys2Proof.Machine

theorem zeroPage_readsOnly (zp : Byte) (s : State) : ReadsOnly s (zeroPage zp s).state := rfl
theorem zeroPageX_readsOnly (zp : Byte) (s : State) : ReadsOnly s (zeroPageX zp s).state := rfl
theorem zeroPageY_readsOnly (zp : Byte) (s : State) : ReadsOnly s (zeroPageY zp s).state := rfl
theorem absolute_readsOnly (w : Word) (s : State) : ReadsOnly s (absolute w s).state := rfl
theorem absoluteX_readsOnly (w : Word) (s : State) : ReadsOnly s (absoluteX w s).state := rfl
theorem absoluteY_readsOnly (w : Word) (s : State) : ReadsOnly s (absoluteY w s).state := rfl
theorem indirect_readsOnly (w : Word) (s : State) : ReadsOnly s (indirect w s).state := read16Bug_readsOnly _ s
theorem indexedIndirect_readsOnly (zp : Byte) (s : State) : ReadsOnly s (indexedIndirect zp s).state :=
  read16Bug_readsOnly _ s
theorem indirectIndexed_readsOnly (zp : Byte) (s : State) : ReadsOnly s (indirectIndexed zp s).state :=
  read16Bug_readsOnly _ s

theorem immediateOperand_readsOnly (imm : Byte) (s : State) : ReadsOnly s (immediateOperand imm s).state := rfl

theorem memoryOperand_readsOnly {mode : State → Resolved} (h : ∀ t, ReadsOnly t (mode t).state) (s : State) :
    ReadsOnly s (memoryOperand mode s).state := (h s).trans (busRead_readsOnly _ _)

/-- What a reading step leaves that does nothing with the byte read. -/
theorem ReadForm.after_eq {f : ReadForm} {s : State} (h : ReadsOnly (s.advance f.length) (f.read s).state) :
    f.after s = finish (f.cycles + pagePenalty f.penalty (f.read s).crossed) (f.read s).state := by
  have hp : pagePenalty f.penalty (f.read s).crossed =
      if f.penalty = true ∧ (f.read s).crossed = true then 1 else 0 := by
    simp only [pagePenalty, Bool.and_eq_true]
  unfold ReadForm.after ReadForm.count
  rw [← hp]
  unfold ReadsOnly at h
  generalize (f.read s).state = u at h ⊢
  rw [h]
  rfl

/-- What a storing step leaves: `t` is the state before the write. -/
theorem MemoryForm.finished_eq {f : MemoryForm} {s t : State} (v : Byte) (h : ReadsOnly (s.advance f.length) t) :
    f.finished v t s = finish f.cycles (busWrite (f.address s) v t) := by
  have hw := busWrite_writesOnly (f.address s) v t
  unfold MemoryForm.finished
  generalize busWrite (f.address s) v t = w at hw ⊢
  unfold WritesOnly at hw
  unfold ReadsOnly at h
  rw [hw, h]
  rfl

/-- The form's meaning reads the operand and then does `e` with its value. -/
structure Reads (f : ReadForm) (e : Byte → State → State) : Prop where
  exec : ∀ s : State, exec f.instr s =
    .next (finish (f.cycles + pagePenalty f.penalty (f.read s).crossed) (e (f.read s).value (f.read s).state))
  readsOnly : ∀ s : State, ReadsOnly (s.advance f.length) (f.read s).state

/-- The form's meaning does that on a machine that supports the undocumented instructions. -/
structure ReadsUndocumented (f : ReadForm) (e : Byte → State → State) : Prop where
  exec : ∀ s : State, s.params.undocSet = true → exec f.instr s =
    .next (finish (f.cycles + pagePenalty f.penalty (f.read s).crossed) (e (f.read s).value (f.read s).state))
  readsOnly : ∀ s : State, ReadsOnly (s.advance f.length) (f.read s).state

/-- The form's meaning stores `v`. -/
structure Stores (f : MemoryForm) (v : State → Byte) : Prop where
  exec : ∀ s : State, exec f.instr s =
    .next (finish f.cycles (busWrite (f.address s) (v (f.mode (s.advance f.length)).state) (f.mode (s.advance f.length)).state))
  readsOnly : ∀ s : State, ReadsOnly (s.advance f.length) (f.mode (s.advance f.length)).state

/-- The form's meaning stores `v` on a machine that supports the undocumented instructions. -/
structure StoresUndocumented (f : MemoryForm) (v : State → Byte) : Prop where
  exec : ∀ s : State, s.params.undocSet = true → exec f.instr s =
    .next (finish f.cycles (busWrite (f.address s) (v (f.mode (s.advance f.length)).state) (f.mode (s.advance f.length)).state))
  readsOnly : ∀ s : State, ReadsOnly (s.advance f.length) (f.mode (s.advance f.length)).state

/-- The form's meaning stores `g c m` over the byte `m` it reads, `c` the carry, and then does `e m (g c m)`. -/
structure Modifies (f : MemoryForm) (g : Bool → Byte → Byte) (e : Byte → Byte → State → State) : Prop where
  exec : ∀ s : State, exec f.instr s =
    .next (finish f.cycles (e (f.read s).value (g (f.read s).state.flags.c (f.read s).value)
      (busWrite (f.address s) (g (f.read s).state.flags.c (f.read s).value) (f.read s).state)))
  readsOnly : ∀ s : State, ReadsOnly (s.advance f.length) (f.read s).state

/-- The form's meaning does that on a machine that supports the undocumented instructions. -/
structure ModifiesUndocumented (f : MemoryForm) (g : Bool → Byte → Byte) (e : Byte → Byte → State → State) : Prop where
  exec : ∀ s : State, s.params.undocSet = true → exec f.instr s =
    .next (finish f.cycles (e (f.read s).value (g (f.read s).state.flags.c (f.read s).value)
      (busWrite (f.address s) (g (f.read s).state.flags.c (f.read s).value) (f.read s).state)))
  readsOnly : ∀ s : State, ReadsOnly (s.advance f.length) (f.read s).state

theorem ldaForms_reads (imm : Byte) (zp : Byte) (w : Word) : ∀ f ∈ ldaForms imm zp w, Reads f ldaEffect := by
  intro f hf
  simp only [ldaForms, List.mem_cons, List.not_mem_nil, or_false] at hf
  rcases hf with rfl | rfl | rfl | rfl | rfl | rfl | rfl | rfl
  · exact ⟨fun _ => rfl, fun s => memoryOperand_readsOnly (indexedIndirect_readsOnly zp) _⟩
  · exact ⟨fun _ => rfl, fun s => memoryOperand_readsOnly (zeroPage_readsOnly zp) _⟩
  · exact ⟨fun _ => rfl, fun s => immediateOperand_readsOnly imm _⟩
  · exact ⟨fun _ => rfl, fun s => memoryOperand_readsOnly (absolute_readsOnly w) _⟩
  · exact ⟨fun _ => rfl, fun s => memoryOperand_readsOnly (indirectIndexed_readsOnly zp) _⟩
  · exact ⟨fun _ => rfl, fun s => memoryOperand_readsOnly (zeroPageX_readsOnly zp) _⟩
  · exact ⟨fun _ => rfl, fun s => memoryOperand_readsOnly (absoluteY_readsOnly w) _⟩
  · exact ⟨fun _ => rfl, fun s => memoryOperand_readsOnly (absoluteX_readsOnly w) _⟩

theorem ldxForms_reads (imm : Byte) (zp : Byte) (w : Word) : ∀ f ∈ ldxForms imm zp w, Reads f ldxEffect := by
  intro f hf
  simp only [ldxForms, List.mem_cons, List.not_mem_nil, or_false] at hf
  rcases hf with rfl | rfl | rfl | rfl | rfl
  · exact ⟨fun _ => rfl, fun s => immediateOperand_readsOnly imm _⟩
  · exact ⟨fun _ => rfl, fun s => memoryOperand_readsOnly (zeroPage_readsOnly zp) _⟩
  · exact ⟨fun _ => rfl, fun s => memoryOperand_readsOnly (absolute_readsOnly w) _⟩
  · exact ⟨fun _ => rfl, fun s => memoryOperand_readsOnly (zeroPageY_readsOnly zp) _⟩
  · exact ⟨fun _ => rfl, fun s => memoryOperand_readsOnly (absoluteY_readsOnly w) _⟩

theorem ldyForms_reads (imm : Byte) (zp : Byte) (w : Word) : ∀ f ∈ ldyForms imm zp w, Reads f ldyEffect := by
  intro f hf
  simp only [ldyForms, List.mem_cons, List.not_mem_nil, or_false] at hf
  rcases hf with rfl | rfl | rfl | rfl | rfl
  · exact ⟨fun _ => rfl, fun s => immediateOperand_readsOnly imm _⟩
  · exact ⟨fun _ => rfl, fun s => memoryOperand_readsOnly (zeroPage_readsOnly zp) _⟩
  · exact ⟨fun _ => rfl, fun s => memoryOperand_readsOnly (absolute_readsOnly w) _⟩
  · exact ⟨fun _ => rfl, fun s => memoryOperand_readsOnly (zeroPageX_readsOnly zp) _⟩
  · exact ⟨fun _ => rfl, fun s => memoryOperand_readsOnly (absoluteX_readsOnly w) _⟩

theorem adcForms_reads (imm : Byte) (zp : Byte) (w : Word) : ∀ f ∈ adcForms imm zp w, Reads f adcEffect := by
  intro f hf
  simp only [adcForms, List.mem_cons, List.not_mem_nil, or_false] at hf
  rcases hf with rfl | rfl | rfl | rfl | rfl | rfl | rfl | rfl
  · exact ⟨fun _ => rfl, fun s => memoryOperand_readsOnly (indexedIndirect_readsOnly zp) _⟩
  · exact ⟨fun _ => rfl, fun s => memoryOperand_readsOnly (zeroPage_readsOnly zp) _⟩
  · exact ⟨fun _ => rfl, fun s => immediateOperand_readsOnly imm _⟩
  · exact ⟨fun _ => rfl, fun s => memoryOperand_readsOnly (absolute_readsOnly w) _⟩
  · exact ⟨fun _ => rfl, fun s => memoryOperand_readsOnly (indirectIndexed_readsOnly zp) _⟩
  · exact ⟨fun _ => rfl, fun s => memoryOperand_readsOnly (zeroPageX_readsOnly zp) _⟩
  · exact ⟨fun _ => rfl, fun s => memoryOperand_readsOnly (absoluteY_readsOnly w) _⟩
  · exact ⟨fun _ => rfl, fun s => memoryOperand_readsOnly (absoluteX_readsOnly w) _⟩

theorem cmpForms_reads (imm : Byte) (zp : Byte) (w : Word) : ∀ f ∈ cmpForms imm zp w, Reads f cmpEffect := by
  intro f hf
  simp only [cmpForms, List.mem_cons, List.not_mem_nil, or_false] at hf
  rcases hf with rfl | rfl | rfl | rfl | rfl | rfl | rfl | rfl
  · exact ⟨fun _ => rfl, fun s => memoryOperand_readsOnly (indexedIndirect_readsOnly zp) _⟩
  · exact ⟨fun _ => rfl, fun s => memoryOperand_readsOnly (zeroPage_readsOnly zp) _⟩
  · exact ⟨fun _ => rfl, fun s => immediateOperand_readsOnly imm _⟩
  · exact ⟨fun _ => rfl, fun s => memoryOperand_readsOnly (absolute_readsOnly w) _⟩
  · exact ⟨fun _ => rfl, fun s => memoryOperand_readsOnly (indirectIndexed_readsOnly zp) _⟩
  · exact ⟨fun _ => rfl, fun s => memoryOperand_readsOnly (zeroPageX_readsOnly zp) _⟩
  · exact ⟨fun _ => rfl, fun s => memoryOperand_readsOnly (absoluteY_readsOnly w) _⟩
  · exact ⟨fun _ => rfl, fun s => memoryOperand_readsOnly (absoluteX_readsOnly w) _⟩

theorem cpxForms_reads (imm : Byte) (zp : Byte) (w : Word) : ∀ f ∈ cpxForms imm zp w, Reads f cpxEffect := by
  intro f hf
  simp only [cpxForms, List.mem_cons, List.not_mem_nil, or_false] at hf
  rcases hf with rfl | rfl | rfl
  · exact ⟨fun _ => rfl, fun s => immediateOperand_readsOnly imm _⟩
  · exact ⟨fun _ => rfl, fun s => memoryOperand_readsOnly (zeroPage_readsOnly zp) _⟩
  · exact ⟨fun _ => rfl, fun s => memoryOperand_readsOnly (absolute_readsOnly w) _⟩

theorem cpyForms_reads (imm : Byte) (zp : Byte) (w : Word) : ∀ f ∈ cpyForms imm zp w, Reads f cpyEffect := by
  intro f hf
  simp only [cpyForms, List.mem_cons, List.not_mem_nil, or_false] at hf
  rcases hf with rfl | rfl | rfl
  · exact ⟨fun _ => rfl, fun s => immediateOperand_readsOnly imm _⟩
  · exact ⟨fun _ => rfl, fun s => memoryOperand_readsOnly (zeroPage_readsOnly zp) _⟩
  · exact ⟨fun _ => rfl, fun s => memoryOperand_readsOnly (absolute_readsOnly w) _⟩

theorem andForms_reads (imm : Byte) (zp : Byte) (w : Word) : ∀ f ∈ andForms imm zp w, Reads f andEffect := by
  intro f hf
  simp only [andForms, List.mem_cons, List.not_mem_nil, or_false] at hf
  rcases hf with rfl | rfl | rfl | rfl | rfl | rfl | rfl | rfl
  · exact ⟨fun _ => rfl, fun s => memoryOperand_readsOnly (indexedIndirect_readsOnly zp) _⟩
  · exact ⟨fun _ => rfl, fun s => memoryOperand_readsOnly (zeroPage_readsOnly zp) _⟩
  · exact ⟨fun _ => rfl, fun s => immediateOperand_readsOnly imm _⟩
  · exact ⟨fun _ => rfl, fun s => memoryOperand_readsOnly (absolute_readsOnly w) _⟩
  · exact ⟨fun _ => rfl, fun s => memoryOperand_readsOnly (indirectIndexed_readsOnly zp) _⟩
  · exact ⟨fun _ => rfl, fun s => memoryOperand_readsOnly (zeroPageX_readsOnly zp) _⟩
  · exact ⟨fun _ => rfl, fun s => memoryOperand_readsOnly (absoluteY_readsOnly w) _⟩
  · exact ⟨fun _ => rfl, fun s => memoryOperand_readsOnly (absoluteX_readsOnly w) _⟩

theorem oraForms_reads (imm : Byte) (zp : Byte) (w : Word) : ∀ f ∈ oraForms imm zp w, Reads f oraEffect := by
  intro f hf
  simp only [oraForms, List.mem_cons, List.not_mem_nil, or_false] at hf
  rcases hf with rfl | rfl | rfl | rfl | rfl | rfl | rfl | rfl
  · exact ⟨fun _ => rfl, fun s => memoryOperand_readsOnly (indexedIndirect_readsOnly zp) _⟩
  · exact ⟨fun _ => rfl, fun s => memoryOperand_readsOnly (zeroPage_readsOnly zp) _⟩
  · exact ⟨fun _ => rfl, fun s => immediateOperand_readsOnly imm _⟩
  · exact ⟨fun _ => rfl, fun s => memoryOperand_readsOnly (absolute_readsOnly w) _⟩
  · exact ⟨fun _ => rfl, fun s => memoryOperand_readsOnly (indirectIndexed_readsOnly zp) _⟩
  · exact ⟨fun _ => rfl, fun s => memoryOperand_readsOnly (zeroPageX_readsOnly zp) _⟩
  · exact ⟨fun _ => rfl, fun s => memoryOperand_readsOnly (absoluteY_readsOnly w) _⟩
  · exact ⟨fun _ => rfl, fun s => memoryOperand_readsOnly (absoluteX_readsOnly w) _⟩

theorem eorForms_reads (imm : Byte) (zp : Byte) (w : Word) : ∀ f ∈ eorForms imm zp w, Reads f eorEffect := by
  intro f hf
  simp only [eorForms, List.mem_cons, List.not_mem_nil, or_false] at hf
  rcases hf with rfl | rfl | rfl | rfl | rfl | rfl | rfl | rfl
  · exact ⟨fun _ => rfl, fun s => memoryOperand_readsOnly (indexedIndirect_readsOnly zp) _⟩
  · exact ⟨fun _ => rfl, fun s => memoryOperand_readsOnly (zeroPage_readsOnly zp) _⟩
  · exact ⟨fun _ => rfl, fun s => immediateOperand_readsOnly imm _⟩
  · exact ⟨fun _ => rfl, fun s => memoryOperand_readsOnly (absolute_readsOnly w) _⟩
  · exact ⟨fun _ => rfl, fun s => memoryOperand_readsOnly (indirectIndexed_readsOnly zp) _⟩
  · exact ⟨fun _ => rfl, fun s => memoryOperand_readsOnly (zeroPageX_readsOnly zp) _⟩
  · exact ⟨fun _ => rfl, fun s => memoryOperand_readsOnly (absoluteY_readsOnly w) _⟩
  · exact ⟨fun _ => rfl, fun s => memoryOperand_readsOnly (absoluteX_readsOnly w) _⟩

theorem bitForms_reads (zp : Byte) (w : Word) : ∀ f ∈ bitForms zp w, Reads f bitEffect := by
  intro f hf
  simp only [bitForms, List.mem_cons, List.not_mem_nil, or_false] at hf
  rcases hf with rfl | rfl
  · exact ⟨fun _ => rfl, fun s => memoryOperand_readsOnly (zeroPage_readsOnly zp) _⟩
  · exact ⟨fun _ => rfl, fun s => memoryOperand_readsOnly (absolute_readsOnly w) _⟩

theorem laxForms_reads (zp : Byte) (w : Word) : ∀ f ∈ laxForms zp w, ReadsUndocumented f laxEffect := by
  intro f hf
  simp only [laxForms, List.mem_cons, List.not_mem_nil, or_false] at hf
  rcases hf with rfl | rfl | rfl | rfl | rfl | rfl
  · exact ⟨fun s h => by simp only [exec, execLaxIndexedIndirect, undocumented, h, if_true]; rfl, fun s => memoryOperand_readsOnly (indexedIndirect_readsOnly zp) _⟩
  · exact ⟨fun s h => by simp only [exec, execLaxZeroPage, undocumented, h, if_true]; rfl, fun s => memoryOperand_readsOnly (zeroPage_readsOnly zp) _⟩
  · exact ⟨fun s h => by simp only [exec, execLaxAbsolute, undocumented, h, if_true]; rfl, fun s => memoryOperand_readsOnly (absolute_readsOnly w) _⟩
  · exact ⟨fun s h => by simp only [exec, execLaxIndirectIndexed, undocumented, h, if_true]; rfl, fun s => memoryOperand_readsOnly (indirectIndexed_readsOnly zp) _⟩
  · exact ⟨fun s h => by simp only [exec, execLaxZeroPageY, undocumented, h, if_true]; rfl, fun s => memoryOperand_readsOnly (zeroPageY_readsOnly zp) _⟩
  · exact ⟨fun s h => by simp only [exec, execLaxAbsoluteY, undocumented, h, if_true]; rfl, fun s => memoryOperand_readsOnly (absoluteY_readsOnly w) _⟩

theorem nopReadForms_reads (imm : Byte) (zp : Byte) (w : Word) : ∀ f ∈ nopReadForms imm zp w, ReadsUndocumented f nopEffect := by
  intro f hf
  simp only [nopReadForms, List.mem_append, List.mem_cons, List.not_mem_nil, or_false] at hf
  rcases hf with ((rfl | rfl | rfl | rfl | rfl | rfl | rfl | rfl | rfl) | (rfl | rfl | rfl | rfl | rfl | rfl | rfl | rfl | rfl)) | (rfl | rfl | rfl)
  · exact ⟨fun s h => by simp only [exec, execNopZeroPage04, undocumented, h, if_true]; rfl, fun s => memoryOperand_readsOnly (zeroPage_readsOnly zp) _⟩
  · exact ⟨fun s h => by simp only [exec, execNopAbsolute0C, undocumented, h, if_true]; rfl, fun s => memoryOperand_readsOnly (absolute_readsOnly w) _⟩
  · exact ⟨fun s h => by simp only [exec, execNopZeroPageX14, undocumented, h, if_true]; rfl, fun s => memoryOperand_readsOnly (zeroPageX_readsOnly zp) _⟩
  · exact ⟨fun s h => by simp only [exec, execNopAbsoluteX1C, undocumented, h, if_true]; rfl, fun s => memoryOperand_readsOnly (absoluteX_readsOnly w) _⟩
  · exact ⟨fun s h => by simp only [exec, execNopZeroPageX34, undocumented, h, if_true]; rfl, fun s => memoryOperand_readsOnly (zeroPageX_readsOnly zp) _⟩
  · exact ⟨fun s h => by simp only [exec, execNopAbsoluteX3C, undocumented, h, if_true]; rfl, fun s => memoryOperand_readsOnly (absoluteX_readsOnly w) _⟩
  · exact ⟨fun s h => by simp only [exec, execNopZeroPage44, undocumented, h, if_true]; rfl, fun s => memoryOperand_readsOnly (zeroPage_readsOnly zp) _⟩
  · exact ⟨fun s h => by simp only [exec, execNopZeroPageX54, undocumented, h, if_true]; rfl, fun s => memoryOperand_readsOnly (zeroPageX_readsOnly zp) _⟩
  · exact ⟨fun s h => by simp only [exec, execNopAbsoluteX5C, undocumented, h, if_true]; rfl, fun s => memoryOperand_readsOnly (absoluteX_readsOnly w) _⟩
  · exact ⟨fun s h => by simp only [exec, execNopZeroPage64, undocumented, h, if_true]; rfl, fun s => memoryOperand_readsOnly (zeroPage_readsOnly zp) _⟩
  · exact ⟨fun s h => by simp only [exec, execNopZeroPageX74, undocumented, h, if_true]; rfl, fun s => memoryOperand_readsOnly (zeroPageX_readsOnly zp) _⟩
  · exact ⟨fun s h => by simp only [exec, execNopAbsoluteX7C, undocumented, h, if_true]; rfl, fun s => memoryOperand_readsOnly (absoluteX_readsOnly w) _⟩
  · exact ⟨fun s h => by simp only [exec, execNopImmediate80, undocumented, h, if_true]; rfl, fun s => immediateOperand_readsOnly imm _⟩
  · exact ⟨fun s h => by simp only [exec, execNopImmediate82, undocumented, h, if_true]; rfl, fun s => immediateOperand_readsOnly imm _⟩
  · exact ⟨fun s h => by simp only [exec, execNopImmediate89, undocumented, h, if_true]; rfl, fun s => immediateOperand_readsOnly imm _⟩
  · exact ⟨fun s h => by simp only [exec, execNopImmediateC2, undocumented, h, if_true]; rfl, fun s => immediateOperand_readsOnly imm _⟩
  · exact ⟨fun s h => by simp only [exec, execNopZeroPageXD4, undocumented, h, if_true]; rfl, fun s => memoryOperand_readsOnly (zeroPageX_readsOnly zp) _⟩
  · exact ⟨fun s h => by simp only [exec, execNopAbsoluteXDC, undocumented, h, if_true]; rfl, fun s => memoryOperand_readsOnly (absoluteX_readsOnly w) _⟩
  · exact ⟨fun s h => by simp only [exec, execNopImmediateE2, undocumented, h, if_true]; rfl, fun s => immediateOperand_readsOnly imm _⟩
  · exact ⟨fun s h => by simp only [exec, execNopZeroPageXF4, undocumented, h, if_true]; rfl, fun s => memoryOperand_readsOnly (zeroPageX_readsOnly zp) _⟩
  · exact ⟨fun s h => by simp only [exec, execNopAbsoluteXFC, undocumented, h, if_true]; rfl, fun s => memoryOperand_readsOnly (absoluteX_readsOnly w) _⟩

theorem sbcForms_reads (imm : Byte) (zp : Byte) (w : Word) : ∀ f ∈ sbcForms imm zp w, ReadsUndocumented f sbcEffect := by
  intro f hf
  simp only [sbcForms, List.mem_cons, List.not_mem_nil, or_false] at hf
  rcases hf with rfl | rfl | rfl | rfl | rfl | rfl | rfl | rfl | rfl
  · exact ⟨fun _ _ => rfl, fun s => memoryOperand_readsOnly (indexedIndirect_readsOnly zp) _⟩
  · exact ⟨fun _ _ => rfl, fun s => memoryOperand_readsOnly (zeroPage_readsOnly zp) _⟩
  · exact ⟨fun _ _ => rfl, fun s => immediateOperand_readsOnly imm _⟩
  · exact ⟨fun s h => by simp only [exec, execSbcImmediateEB, undocumented, h, if_true]; rfl, fun s => immediateOperand_readsOnly imm _⟩
  · exact ⟨fun _ _ => rfl, fun s => memoryOperand_readsOnly (absolute_readsOnly w) _⟩
  · exact ⟨fun _ _ => rfl, fun s => memoryOperand_readsOnly (indirectIndexed_readsOnly zp) _⟩
  · exact ⟨fun _ _ => rfl, fun s => memoryOperand_readsOnly (zeroPageX_readsOnly zp) _⟩
  · exact ⟨fun _ _ => rfl, fun s => memoryOperand_readsOnly (absoluteY_readsOnly w) _⟩
  · exact ⟨fun _ _ => rfl, fun s => memoryOperand_readsOnly (absoluteX_readsOnly w) _⟩

theorem staForms_stores (zp : Byte) (w : Word) : ∀ f ∈ staForms zp w, Stores f (·.a) := by
  intro f hf
  simp only [staForms, List.mem_cons, List.not_mem_nil, or_false] at hf
  rcases hf with rfl | rfl | rfl | rfl | rfl | rfl | rfl
  · exact ⟨fun _ => rfl, fun s => indexedIndirect_readsOnly zp _⟩
  · exact ⟨fun _ => rfl, fun s => zeroPage_readsOnly zp _⟩
  · exact ⟨fun _ => rfl, fun s => absolute_readsOnly w _⟩
  · exact ⟨fun _ => rfl, fun s => indirectIndexed_readsOnly zp _⟩
  · exact ⟨fun _ => rfl, fun s => zeroPageX_readsOnly zp _⟩
  · exact ⟨fun _ => rfl, fun s => absoluteY_readsOnly w _⟩
  · exact ⟨fun _ => rfl, fun s => absoluteX_readsOnly w _⟩

theorem stxForms_stores (zp : Byte) (w : Word) : ∀ f ∈ stxForms zp w, Stores f (·.x) := by
  intro f hf
  simp only [stxForms, List.mem_cons, List.not_mem_nil, or_false] at hf
  rcases hf with rfl | rfl | rfl
  · exact ⟨fun _ => rfl, fun s => zeroPage_readsOnly zp _⟩
  · exact ⟨fun _ => rfl, fun s => absolute_readsOnly w _⟩
  · exact ⟨fun _ => rfl, fun s => zeroPageY_readsOnly zp _⟩

theorem styForms_stores (zp : Byte) (w : Word) : ∀ f ∈ styForms zp w, Stores f (·.y) := by
  intro f hf
  simp only [styForms, List.mem_cons, List.not_mem_nil, or_false] at hf
  rcases hf with rfl | rfl | rfl
  · exact ⟨fun _ => rfl, fun s => zeroPage_readsOnly zp _⟩
  · exact ⟨fun _ => rfl, fun s => absolute_readsOnly w _⟩
  · exact ⟨fun _ => rfl, fun s => zeroPageX_readsOnly zp _⟩

theorem saxForms_stores (zp : Byte) (w : Word) : ∀ f ∈ saxForms zp w, StoresUndocumented f (fun t => t.a &&& t.x) := by
  intro f hf
  simp only [saxForms, List.mem_cons, List.not_mem_nil, or_false] at hf
  rcases hf with rfl | rfl | rfl | rfl
  · exact ⟨fun s h => by simp only [exec, execSaxIndexedIndirect, undocumented, h, if_true]; rfl, fun s => indexedIndirect_readsOnly zp _⟩
  · exact ⟨fun s h => by simp only [exec, execSaxZeroPage, undocumented, h, if_true]; rfl, fun s => zeroPage_readsOnly zp _⟩
  · exact ⟨fun s h => by simp only [exec, execSaxAbsolute, undocumented, h, if_true]; rfl, fun s => absolute_readsOnly w _⟩
  · exact ⟨fun s h => by simp only [exec, execSaxZeroPageY, undocumented, h, if_true]; rfl, fun s => zeroPageY_readsOnly zp _⟩

theorem incForms_modifies (zp : Byte) (w : Word) : ∀ f ∈ incForms zp w, Modifies f incResult incDecEffect := by
  intro f hf
  simp only [incForms, List.mem_cons, List.not_mem_nil, or_false] at hf
  rcases hf with rfl | rfl | rfl | rfl
  · exact ⟨fun _ => rfl, fun s => memoryOperand_readsOnly (zeroPage_readsOnly zp) _⟩
  · exact ⟨fun _ => rfl, fun s => memoryOperand_readsOnly (absolute_readsOnly w) _⟩
  · exact ⟨fun _ => rfl, fun s => memoryOperand_readsOnly (zeroPageX_readsOnly zp) _⟩
  · exact ⟨fun _ => rfl, fun s => memoryOperand_readsOnly (absoluteX_readsOnly w) _⟩

theorem decForms_modifies (zp : Byte) (w : Word) : ∀ f ∈ decForms zp w, Modifies f decResult incDecEffect := by
  intro f hf
  simp only [decForms, List.mem_cons, List.not_mem_nil, or_false] at hf
  rcases hf with rfl | rfl | rfl | rfl
  · exact ⟨fun _ => rfl, fun s => memoryOperand_readsOnly (zeroPage_readsOnly zp) _⟩
  · exact ⟨fun _ => rfl, fun s => memoryOperand_readsOnly (absolute_readsOnly w) _⟩
  · exact ⟨fun _ => rfl, fun s => memoryOperand_readsOnly (zeroPageX_readsOnly zp) _⟩
  · exact ⟨fun _ => rfl, fun s => memoryOperand_readsOnly (absoluteX_readsOnly w) _⟩

theorem aslForms_modifies (zp : Byte) (w : Word) : ∀ f ∈ aslForms zp w, Modifies f aslResult leftEffect := by
  intro f hf
  simp only [aslForms, List.mem_cons, List.not_mem_nil, or_false] at hf
  rcases hf with rfl | rfl | rfl | rfl
  · exact ⟨fun _ => rfl, fun s => memoryOperand_readsOnly (zeroPage_readsOnly zp) _⟩
  · exact ⟨fun _ => rfl, fun s => memoryOperand_readsOnly (absolute_readsOnly w) _⟩
  · exact ⟨fun _ => rfl, fun s => memoryOperand_readsOnly (zeroPageX_readsOnly zp) _⟩
  · exact ⟨fun _ => rfl, fun s => memoryOperand_readsOnly (absoluteX_readsOnly w) _⟩

theorem lsrForms_modifies (zp : Byte) (w : Word) : ∀ f ∈ lsrForms zp w, Modifies f lsrResult rightEffect := by
  intro f hf
  simp only [lsrForms, List.mem_cons, List.not_mem_nil, or_false] at hf
  rcases hf with rfl | rfl | rfl | rfl
  · exact ⟨fun _ => rfl, fun s => memoryOperand_readsOnly (zeroPage_readsOnly zp) _⟩
  · exact ⟨fun _ => rfl, fun s => memoryOperand_readsOnly (absolute_readsOnly w) _⟩
  · exact ⟨fun _ => rfl, fun s => memoryOperand_readsOnly (zeroPageX_readsOnly zp) _⟩
  · exact ⟨fun _ => rfl, fun s => memoryOperand_readsOnly (absoluteX_readsOnly w) _⟩

theorem rolForms_modifies (zp : Byte) (w : Word) : ∀ f ∈ rolForms zp w, Modifies f rolResult leftEffect := by
  intro f hf
  simp only [rolForms, List.mem_cons, List.not_mem_nil, or_false] at hf
  rcases hf with rfl | rfl | rfl | rfl
  · exact ⟨fun _ => rfl, fun s => memoryOperand_readsOnly (zeroPage_readsOnly zp) _⟩
  · exact ⟨fun _ => rfl, fun s => memoryOperand_readsOnly (absolute_readsOnly w) _⟩
  · exact ⟨fun _ => rfl, fun s => memoryOperand_readsOnly (zeroPageX_readsOnly zp) _⟩
  · exact ⟨fun _ => rfl, fun s => memoryOperand_readsOnly (absoluteX_readsOnly w) _⟩

theorem rorForms_modifies (zp : Byte) (w : Word) : ∀ f ∈ rorForms zp w, Modifies f rorResult rightEffect := by
  intro f hf
  simp only [rorForms, List.mem_cons, List.not_mem_nil, or_false] at hf
  rcases hf with rfl | rfl | rfl | rfl
  · exact ⟨fun _ => rfl, fun s => memoryOperand_readsOnly (zeroPage_readsOnly zp) _⟩
  · exact ⟨fun _ => rfl, fun s => memoryOperand_readsOnly (absolute_readsOnly w) _⟩
  · exact ⟨fun _ => rfl, fun s => memoryOperand_readsOnly (zeroPageX_readsOnly zp) _⟩
  · exact ⟨fun _ => rfl, fun s => memoryOperand_readsOnly (absoluteX_readsOnly w) _⟩

theorem dcpForms_modifies (zp : Byte) (w : Word) : ∀ f ∈ dcpForms zp w, ModifiesUndocumented f decResult dcpEffect := by
  intro f hf
  simp only [dcpForms, List.mem_cons, List.not_mem_nil, or_false] at hf
  rcases hf with rfl | rfl | rfl | rfl | rfl | rfl | rfl
  · exact ⟨fun s h => by simp only [exec, execDcpIndexedIndirect, undocumented, h, if_true]; rfl, fun s => memoryOperand_readsOnly (indexedIndirect_readsOnly zp) _⟩
  · exact ⟨fun s h => by simp only [exec, execDcpZeroPage, undocumented, h, if_true]; rfl, fun s => memoryOperand_readsOnly (zeroPage_readsOnly zp) _⟩
  · exact ⟨fun s h => by simp only [exec, execDcpAbsolute, undocumented, h, if_true]; rfl, fun s => memoryOperand_readsOnly (absolute_readsOnly w) _⟩
  · exact ⟨fun s h => by simp only [exec, execDcpIndirectIndexed, undocumented, h, if_true]; rfl, fun s => memoryOperand_readsOnly (indirectIndexed_readsOnly zp) _⟩
  · exact ⟨fun s h => by simp only [exec, execDcpZeroPageX, undocumented, h, if_true]; rfl, fun s => memoryOperand_readsOnly (zeroPageX_readsOnly zp) _⟩
  · exact ⟨fun s h => by simp only [exec, execDcpAbsoluteY, undocumented, h, if_true]; rfl, fun s => memoryOperand_readsOnly (absoluteY_readsOnly w) _⟩
  · exact ⟨fun s h => by simp only [exec, execDcpAbsoluteX, undocumented, h, if_true]; rfl, fun s => memoryOperand_readsOnly (absoluteX_readsOnly w) _⟩

theorem isbForms_modifies (zp : Byte) (w : Word) : ∀ f ∈ isbForms zp w, ModifiesUndocumented f incResult isbEffect := by
  intro f hf
  simp only [isbForms, List.mem_cons, List.not_mem_nil, or_false] at hf
  rcases hf with rfl | rfl | rfl | rfl | rfl | rfl | rfl
  · exact ⟨fun s h => by simp only [exec, execIsbIndexedIndirect, undocumented, h, if_true]; rfl, fun s => memoryOperand_readsOnly (indexedIndirect_readsOnly zp) _⟩
  · exact ⟨fun s h => by simp only [exec, execIsbZeroPage, undocumented, h, if_true]; rfl, fun s => memoryOperand_readsOnly (zeroPage_readsOnly zp) _⟩
  · exact ⟨fun s h => by simp only [exec, execIsbAbsolute, undocumented, h, if_true]; rfl, fun s => memoryOperand_readsOnly (absolute_readsOnly w) _⟩
  · exact ⟨fun s h => by simp only [exec, execIsbIndirectIndexed, undocumented, h, if_true]; rfl, fun s => memoryOperand_readsOnly (indirectIndexed_readsOnly zp) _⟩
  · exact ⟨fun s h => by simp only [exec, execIsbZeroPageX, undocumented, h, if_true]; rfl, fun s => memoryOperand_readsOnly (zeroPageX_readsOnly zp) _⟩
  · exact ⟨fun s h => by simp only [exec, execIsbAbsoluteY, undocumented, h, if_true]; rfl, fun s => memoryOperand_readsOnly (absoluteY_readsOnly w) _⟩
  · exact ⟨fun s h => by simp only [exec, execIsbAbsoluteX, undocumented, h, if_true]; rfl, fun s => memoryOperand_readsOnly (absoluteX_readsOnly w) _⟩

theorem sloForms_modifies (zp : Byte) (w : Word) : ∀ f ∈ sloForms zp w, ModifiesUndocumented f aslResult sloEffect := by
  intro f hf
  simp only [sloForms, List.mem_cons, List.not_mem_nil, or_false] at hf
  rcases hf with rfl | rfl | rfl | rfl | rfl | rfl | rfl
  · exact ⟨fun s h => by simp only [exec, execSloIndexedIndirect, undocumented, h, if_true]; rfl, fun s => memoryOperand_readsOnly (indexedIndirect_readsOnly zp) _⟩
  · exact ⟨fun s h => by simp only [exec, execSloZeroPage, undocumented, h, if_true]; rfl, fun s => memoryOperand_readsOnly (zeroPage_readsOnly zp) _⟩
  · exact ⟨fun s h => by simp only [exec, execSloAbsolute, undocumented, h, if_true]; rfl, fun s => memoryOperand_readsOnly (absolute_readsOnly w) _⟩
  · exact ⟨fun s h => by simp only [exec, execSloIndirectIndexed, undocumented, h, if_true]; rfl, fun s => memoryOperand_readsOnly (indirectIndexed_readsOnly zp) _⟩
  · exact ⟨fun s h => by simp only [exec, execSloZeroPageX, undocumented, h, if_true]; rfl, fun s => memoryOperand_readsOnly (zeroPageX_readsOnly zp) _⟩
  · exact ⟨fun s h => by simp only [exec, execSloAbsoluteY, undocumented, h, if_true]; rfl, fun s => memoryOperand_readsOnly (absoluteY_readsOnly w) _⟩
  · exact ⟨fun s h => by simp only [exec, execSloAbsoluteX, undocumented, h, if_true]; rfl, fun s => memoryOperand_readsOnly (absoluteX_readsOnly w) _⟩

theorem rlaForms_modifies (zp : Byte) (w : Word) : ∀ f ∈ rlaForms zp w, ModifiesUndocumented f rolResult rlaEffect := by
  intro f hf
  simp only [rlaForms, List.mem_cons, List.not_mem_nil, or_false] at hf
  rcases hf with rfl | rfl | rfl | rfl | rfl | rfl | rfl
  · exact ⟨fun s h => by simp only [exec, execRlaIndexedIndirect, undocumented, h, if_true]; rfl, fun s => memoryOperand_readsOnly (indexedIndirect_readsOnly zp) _⟩
  · exact ⟨fun s h => by simp only [exec, execRlaZeroPage, undocumented, h, if_true]; rfl, fun s => memoryOperand_readsOnly (zeroPage_readsOnly zp) _⟩
  · exact ⟨fun s h => by simp only [exec, execRlaAbsolute, undocumented, h, if_true]; rfl, fun s => memoryOperand_readsOnly (absolute_readsOnly w) _⟩
  · exact ⟨fun s h => by simp only [exec, execRlaIndirectIndexed, undocumented, h, if_true]; rfl, fun s => memoryOperand_readsOnly (indirectIndexed_readsOnly zp) _⟩
  · exact ⟨fun s h => by simp only [exec, execRlaZeroPageX, undocumented, h, if_true]; rfl, fun s => memoryOperand_readsOnly (zeroPageX_readsOnly zp) _⟩
  · exact ⟨fun s h => by simp only [exec, execRlaAbsoluteY, undocumented, h, if_true]; rfl, fun s => memoryOperand_readsOnly (absoluteY_readsOnly w) _⟩
  · exact ⟨fun s h => by simp only [exec, execRlaAbsoluteX, undocumented, h, if_true]; rfl, fun s => memoryOperand_readsOnly (absoluteX_readsOnly w) _⟩

theorem sreForms_modifies (zp : Byte) (w : Word) : ∀ f ∈ sreForms zp w, ModifiesUndocumented f lsrResult sreEffect := by
  intro f hf
  simp only [sreForms, List.mem_cons, List.not_mem_nil, or_false] at hf
  rcases hf with rfl | rfl | rfl | rfl | rfl | rfl | rfl
  · exact ⟨fun s h => by simp only [exec, execSreIndexedIndirect, undocumented, h, if_true]; rfl, fun s => memoryOperand_readsOnly (indexedIndirect_readsOnly zp) _⟩
  · exact ⟨fun s h => by simp only [exec, execSreZeroPage, undocumented, h, if_true]; rfl, fun s => memoryOperand_readsOnly (zeroPage_readsOnly zp) _⟩
  · exact ⟨fun s h => by simp only [exec, execSreAbsolute, undocumented, h, if_true]; rfl, fun s => memoryOperand_readsOnly (absolute_readsOnly w) _⟩
  · exact ⟨fun s h => by simp only [exec, execSreIndirectIndexed, undocumented, h, if_true]; rfl, fun s => memoryOperand_readsOnly (indirectIndexed_readsOnly zp) _⟩
  · exact ⟨fun s h => by simp only [exec, execSreZeroPageX, undocumented, h, if_true]; rfl, fun s => memoryOperand_readsOnly (zeroPageX_readsOnly zp) _⟩
  · exact ⟨fun s h => by simp only [exec, execSreAbsoluteY, undocumented, h, if_true]; rfl, fun s => memoryOperand_readsOnly (absoluteY_readsOnly w) _⟩
  · exact ⟨fun s h => by simp only [exec, execSreAbsoluteX, undocumented, h, if_true]; rfl, fun s => memoryOperand_readsOnly (absoluteX_readsOnly w) _⟩

theorem rraForms_modifies (zp : Byte) (w : Word) : ∀ f ∈ rraForms zp w, ModifiesUndocumented f rorResult rraEffect := by
  intro f hf
  simp only [rraForms, List.mem_cons, List.not_mem_nil, or_false] at hf
  rcases hf with rfl | rfl | rfl | rfl | rfl | rfl | rfl
  · exact ⟨fun s h => by simp only [exec, execRraIndexedIndirect, undocumented, h, if_true]; rfl, fun s => memoryOperand_readsOnly (indexedIndirect_readsOnly zp) _⟩
  · exact ⟨fun s h => by simp only [exec, execRraZeroPage, undocumented, h, if_true]; rfl, fun s => memoryOperand_readsOnly (zeroPage_readsOnly zp) _⟩
  · exact ⟨fun s h => by simp only [exec, execRraAbsolute, undocumented, h, if_true]; rfl, fun s => memoryOperand_readsOnly (absolute_readsOnly w) _⟩
  · exact ⟨fun s h => by simp only [exec, execRraIndirectIndexed, undocumented, h, if_true]; rfl, fun s => memoryOperand_readsOnly (indirectIndexed_readsOnly zp) _⟩
  · exact ⟨fun s h => by simp only [exec, execRraZeroPageX, undocumented, h, if_true]; rfl, fun s => memoryOperand_readsOnly (zeroPageX_readsOnly zp) _⟩
  · exact ⟨fun s h => by simp only [exec, execRraAbsoluteY, undocumented, h, if_true]; rfl, fun s => memoryOperand_readsOnly (absoluteY_readsOnly w) _⟩
  · exact ⟨fun s h => by simp only [exec, execRraAbsoluteX, undocumented, h, if_true]; rfl, fun s => memoryOperand_readsOnly (absoluteX_readsOnly w) _⟩

end Sys2Proof.Machine
end

