-- ==== Sys2Proof/Laws/Store.lean ====
section
/-! SUPPORT. What a store does to memory: the byte, every other byte, and the program window. -/

namespace Sys2Proof.Machine

/-- `StoredAt` speaks of RAM and the cartridge only. -/
theorem StoredAt.congr {a : Word} {v : Byte} {s s' t t' : State} (h : StoredAt a v s t)
    (hs : s'.ram = s.ram) (hc : s'.cart = s.cart) (ht : t'.ram = t.ram) (hd : t'.cart = t.cart) : StoredAt a v s' t' := by
  have e1 : ∀ b, s'.peek b = s.peek b := peek_congr hs hc
  have e2 : ∀ b, t'.peek b = t.peek b := peek_congr ht hd
  constructor
  · intro h1; rw [e2]; exact h.ram h1
  · intro h1 h2 h3; rw [e2]; exact h.prgRam h1 h2 (by rw [← hc]; exact h3)
  · intro b h1 h2; rw [e1, e2]; exact h.others b h1 h2
  · rw [hd, hc]; exact h.rom
  · intro h1 b h2; rw [e1, e2]; exact h.window (by rw [← hc]; exact h1) b h2

/-- The serial port never touches a memory. -/
theorem Cart.serialWrite_prg (c : Cart) (a : Word) (v : Byte) :
    (c.serialWrite a v).prg = c.prg ∧ (c.serialWrite a v).prgRam = c.prgRam ∧ (c.serialWrite a v).hasPrgRam = c.hasPrgRam := by
  unfold Cart.serialWrite
  split
  · exact ⟨rfl, rfl, rfl⟩
  · simp only []
    split
    · unfold Cart.commit; split <;> exact ⟨rfl, rfl, rfl⟩
    · exact ⟨rfl, rfl, rfl⟩

/-- Battery RAM, as the CPU reads it. -/
theorem Cart.cpuRead_low (c : Cart) {b : Word} (h : b.toNat < 0x8000) :
  c.cpuRead b = if c.hasPrgRam then some (c.prgRam.read (b.toNat % 0x2000)) else none := by
  unfold Cart.cpuRead; rw [if_pos h]

/-- What a bus write does to the memory a program can see (R54, R55, R78, R81). -/
theorem busWrite_storedAt {s : State} (hr : s.ram.wf = true) (hp : s.cart.prgRam.wf = true) (a : Word) (v : Byte) :
    StoredAt a v s (busWrite a v s) := by
  by_cases h1 : a.toNat < 0x2000
  · rw [busWrite_ram v s h1]
    constructor
    · intro _
      rw [State.peek_eq, if_pos h1, Memory.read_write_self _ _ hr]
    · intro h2; omega
    · intro b hb hc
      rw [State.peek_eq, State.peek_eq]
      unfold cellOf at hc
      rw [if_pos h1] at hc
      by_cases h3 : b.toNat < 0x2000
      · rw [if_pos h3] at hc
        rw [if_pos h3, if_pos h3, Memory.read_write_other _ _ hc]
      · rw [if_neg h3, if_neg h3]
    · rfl
    · intro _ b hb
      have hb' : ¬ b.toNat < 0x2000 := by omega
      rw [State.peek_eq, State.peek_eq, if_neg hb', if_neg hb']
  by_cases h2 : a.toNat < 0x6000
  · obtain ⟨e1, e2⟩ := busWrite_elsewhere v s (by omega) h2
    refine ⟨fun h => absurd h h1, fun h => by omega, fun b _ _ => peek_congr e1 e2 b, by rw [e2], fun _ b _ => peek_congr e1 e2 b⟩
  rw [busWrite_cartridge v s (by omega)]
  by_cases h3 : a.toNat < 0x8000
  · have hw : s.cart.cpuWrite a v = if s.cart.hasPrgRam then { s.cart with prgRam := s.cart.prgRam.write (a.toNat % 0x2000) v } else s.cart := by
      unfold Cart.cpuWrite; rw [if_pos h3]
    rw [hw]
    cases hh : s.cart.hasPrgRam with
    | false =>
      simp only [Bool.false_eq_true, if_false]
      exact ⟨fun h => absurd h h1, fun _ _ h => (by rw [hh] at h; cases h), fun b _ _ => rfl, rfl, fun _ b _ => rfl⟩
    | true =>
      simp only [if_true]
      refine ⟨fun h => absurd h h1, fun h4 _ _ => ?_, fun b hb hc => ?_, rfl, fun _ b hb => ?_⟩
      · rw [State.peek_eq, if_neg h1, if_pos h4, Cart.cpuRead_low _ h3]
        simp only [hh, if_true]
        rw [Memory.read_write_self _ _ hp]
      · rw [State.peek_eq, State.peek_eq]
        by_cases h5 : b.toNat < 0x2000
        · rw [if_pos h5, if_pos h5]
        · rw [if_neg h5, if_neg h5]
          by_cases h6 : 0x6000 ≤ b.toNat
          · rw [if_pos h6, if_pos h6, Cart.cpuRead_low _ hb, Cart.cpuRead_low _ hb]
            simp only [hh, if_true]
            unfold cellOf at hc
            rw [if_neg h1, if_neg h5] at hc
            rw [Memory.read_write_other]
            omega
          · rw [if_neg h6, if_neg h6]
      · have hb' : ¬ b.toNat < 0x2000 := by omega
        have hb2 : 0x6000 ≤ b.toNat := by omega
        have hb3 : ¬ b.toNat < 0x8000 := by omega
        rw [State.peek_eq, State.peek_eq, if_neg hb', if_neg hb', if_pos hb2, if_pos hb2]
        unfold Cart.cpuRead
        rw [if_neg hb3, if_neg hb3]
        rfl
  · have hw : s.cart.cpuWrite a v = match s.cart.variant with | .fixedBank => s.cart | .switchable => s.cart.serialWrite a v := by
      unfold Cart.cpuWrite
      exact (if_neg h3).trans (by cases s.cart.variant <;> rfl)
    have hk : (s.cart.cpuWrite a v).prg = s.cart.prg ∧ (s.cart.cpuWrite a v).prgRam = s.cart.prgRam ∧ (s.cart.cpuWrite a v).hasPrgRam = s.cart.hasPrgRam := by
      rw [hw]; split
      · exact ⟨rfl, rfl, rfl⟩
      · exact Cart.serialWrite_prg _ _ _
    refine ⟨fun h => absurd h h1, fun _ h => absurd h h3, fun b hb hc => ?_, hk.1, fun h b hb => ?_⟩
    · rw [State.peek_eq, State.peek_eq]
      simp only [Cart.cpuRead_low _ hb, hk.2.1, hk.2.2]
    · have hf := h.resolve_left h3
      rw [hw, hf]
end Sys2Proof.Machine
end

