-- ==== Sys2Proof/Laws/Completes.lean ====
section
/-! SUPPORT. From the shape of an instruction to its completion: what is left to show for a reading, a storing and a modifying
form is one equation between register and flag updates. -/

namespace Sys2Proof.Machine

theorem ReadsOnly.flags_eq {s t : State} (h : ReadsOnly s t) : t.flags = s.flags := by unfold ReadsOnly at h; rw [h]; rfl
theorem ReadsOnly.a_eq {s t : State} (h : ReadsOnly s t) : t.a = s.a := by unfold ReadsOnly at h; rw [h]; rfl
theorem ReadsOnly.x_eq {s t : State} (h : ReadsOnly s t) : t.x = s.x := by unfold ReadsOnly at h; rw [h]; rfl
theorem ReadsOnly.y_eq {s t : State} (h : ReadsOnly s t) : t.y = s.y := by unfold ReadsOnly at h; rw [h]; rfl
theorem ReadsOnly.ram_eq {s t : State} (h : ReadsOnly s t) : t.ram = s.ram := by unfold ReadsOnly at h; rw [h]; rfl
theorem ReadsOnly.cart_eq {s t : State} (h : ReadsOnly s t) : t.cart = s.cart := by unfold ReadsOnly at h; rw [h]; rfl

/-- A reading form completes in `t` once its effect is shown to be `t`. -/
theorem Reads.completes {f : ReadForm} {e : Byte → State → State} {s t : State} (h : Reads f e)
    (he : ReadsOnly (s.advance f.length) (f.read s).state →
      finish (f.cycles + pagePenalty f.penalty (f.read s).crossed) (e (f.read s).value (f.read s).state) = t)
    (hm : SameMemory s t) : CompletesReading f.instr s t :=
  ⟨by rw [h.exec, he (h.readsOnly s)], hm⟩

/-- So does one of an undocumented instruction, where they are supported. -/
theorem ReadsUndocumented.completes {f : ReadForm} {e : Byte → State → State} {s t : State} (h : ReadsUndocumented f e)
    (hu : s.params.undocSet = true)
    (he : ReadsOnly (s.advance f.length) (f.read s).state →
      finish (f.cycles + pagePenalty f.penalty (f.read s).crossed) (e (f.read s).value (f.read s).state) = t)
    (hm : SameMemory s t) : CompletesReading f.instr s t :=
  ⟨by rw [h.exec s hu, he (h.readsOnly s)], hm⟩

/-- A bus write after reads, seen from the state before them. -/
theorem busWrite_storedAt_of_reads {s t u : State} (hi : s.Inv) (hr : u.ram = s.ram) (hc : u.cart = s.cart) (a : Word)
    (v : Byte) (h1 : t.ram = (busWrite a v u).ram) (h2 : t.cart = (busWrite a v u).cart) : StoredAt a v s t :=
  (busWrite_storedAt (s := u) (by rw [hr]; exact hi.ramWf) (by rw [hc]; exact hi.prgRamWf) a v).congr hr.symm hc.symm h1 h2

/-- A storing form completes with its store. -/
theorem storing_completes {f : MemoryForm} {s : State} {b v : Byte}
    (hx : exec f.instr s =
      .next (finish f.cycles (busWrite (f.address s) b (f.mode (s.advance f.length)).state)))
    (hr : ReadsOnly (s.advance f.length) (f.mode (s.advance f.length)).state) (hi : s.Inv) (hv : b = v) :
    CompletesStoring f.instr (f.address s) v s (f.stored v s) := by
  subst hv
  constructor
  · rw [hx, MemoryForm.stored, MemoryForm.finished_eq _ hr]
  · rw [MemoryForm.stored, MemoryForm.finished_eq _ hr]
    exact busWrite_storedAt_of_reads hi hr.ram_eq hr.cart_eq _ _ rfl rfl

/-- A modifying form completes with its store of `r` in `t`, once `r` is shown to be its result and its register and flag update
on the state after the store is shown to be `t`. -/
theorem modifying_completes {f : MemoryForm} {g : Bool → Byte → Byte} {e : Byte → Byte → State → State} {s t : State}
    (hi : s.Inv)
    (hx : exec f.instr s =
      .next (finish f.cycles (e (f.read s).value (g (f.read s).state.flags.c (f.read s).value)
        (busWrite (f.address s) (g (f.read s).state.flags.c (f.read s).value) (f.read s).state))))
    (hr : ReadsOnly (s.advance f.length) (f.read s).state) (r : Byte) (hg : g s.flags.c (f.read s).value = r)
    (he : ∀ w, w.flags = s.flags → w.a = s.a → finish f.cycles w = f.modified r s →
      finish f.cycles (e (f.read s).value r w) = t)
    (htr : t.ram = (f.modified r s).ram) (htc : t.cart = (f.modified r s).cart) :
    CompletesStoring f.instr (f.address s) r s t := by
  have hc : (f.read s).state.flags = s.flags := hr.flags_eq
  have ha : (f.read s).state.a = s.a := hr.a_eq
  have hm := MemoryForm.finished_eq r hr
  have hw := busWrite_writesOnly (f.address s) r (f.read s).state
  constructor
  · rw [hx, hc, hg, he _ _ _ hm.symm]
    · unfold WritesOnly at hw; rw [hw, ← hc]; rfl
    · unfold WritesOnly at hw; rw [hw, ← ha]; rfl
  · refine busWrite_storedAt_of_reads hi hr.ram_eq hr.cart_eq _ _ ?_ ?_
    · rw [htr, MemoryForm.modified, hm]; rfl
    · rw [htc, MemoryForm.modified, hm]; rfl

end Sys2Proof.Machine
end

