-- ==== Sys2Proof/Laws/Words.lean ====
section
/-! SUPPORT. Addresses as numbers: the pieces of a word, crossed pages, zero-page, indexed and relative addresses, and the
pointer reads that storage answers. -/

namespace Sys2Proof.Machine

theorem hi_toNat (w : Word) : (hi w).toNat = w.toNat / 256 := by
  have := w.isLt
  simp [hi, BitVec.toNat_ushiftRight, Nat.shiftRight_eq_div_pow]
  omega

theorem lo_toNat (w : Word) : (lo w).toNat = w.toNat % 256 := by simp [lo]

/-- The two bytes of a word make it up. -/
theorem word_hi_lo (w : Word) : word (hi w) (lo w) = w := by
  apply BitVec.eq_of_toNat_eq
  rw [word_toNat, hi_toNat, lo_toNat]
  omega

/-- A crossed page, in numbers (R126). -/
theorem pageCross_eq (a b : Word) : pageCross a b = decide (b.toNat / 256 ≠ a.toNat / 256) := by
  unfold pageCross
  rw [bne, show (hi a == hi b) = decide (hi a = hi b) from rfl, ← decide_not]
  congr 1
  apply propext
  rw [not_iff_not, ← hi_toNat a, ← hi_toNat b]
  constructor
  · intro e; rw [e]
  · intro e; exact BitVec.eq_of_toNat_eq e.symm

theorem zext16_eq (b : Byte) : zext16 b = BitVec.ofNat 16 b.toNat := by
  apply BitVec.eq_of_toNat_eq; simp [zext16]

theorem zext16_toNat (b : Byte) : (zext16 b).toNat = b.toNat := by
  have := b.isLt
  rw [zext16_eq, BitVec.toNat_ofNat]
  omega

/-- An indexed address wraps in 16 bits (R120). -/
theorem indexed_eq (w : Word) (i : Byte) : w + zext16 i = BitVec.ofNat 16 ((w.toNat + i.toNat) % 65536) := by
  apply BitVec.eq_of_toNat_eq
  rw [zext16_eq]
  have := i.isLt
  simp [BitVec.toNat_add]

/-- A branch target (R125). -/
theorem target_eq (pc : Word) (off : Byte) : pc + sext16 off = BitVec.ofInt 16 (pc.toNat + off.toInt) := by
  have h1 : pc = BitVec.ofInt 16 pc.toNat := by apply BitVec.eq_of_toNat_eq; simp
  have h2 : sext16 off = BitVec.ofInt 16 off.toInt := rfl
  rw [h2, BitVec.ofInt_add, ← h1]

theorem pagePenalty_true (b : Bool) : pagePenalty true b = if b then 1 else 0 := by cases b <;> rfl

/-- The address of the high byte of a pointer that `Read16Bug` reads (R66). -/
theorem bugAddr_eq (p : Word) :
    word (hi p) (lo p + 1) = BitVec.ofNat 16 (p.toNat / 256 * 256 + (p.toNat + 1) % 256) := by
  have hp := p.isLt
  apply BitVec.eq_of_toNat_eq
  rw [word_toNat, hi_toNat, BitVec.toNat_add, lo_toNat, BitVec.toNat_ofNat]
  simp
  omega

/-- `Read16` of two bytes that storage answers. -/
theorem read16_of_peek {s : State} {p : Word} {l h : Byte} (h1 : s.peek p = some l) (h2 : s.peek (p + 1) = some h) :
    read16 p s = (word h l, s) := by
  unfold read16
  simp only [busRead_of_peek h1, busRead_of_peek h2]

/-- What zero page shows. -/
theorem peek_zeroPage (s : State) (b : Byte) : s.peek (zext16 b) = some (s.ram.read b.toNat) := by
  have := b.isLt
  have h := zext16_toNat b
  rw [State.peek_eq, if_pos (by omega), h, Nat.mod_eq_of_lt (by omega)]

/-- Above RAM memory shows what the cartridge answers. -/
theorem peek_above_ram {s t : State} (h : t.cart = s.cart) {a : Word} (ha : 0x2000 ≤ a.toNat) : t.peek a = s.peek a := by
  have h0 : ¬ a.toNat < 0x2000 := by omega
  rw [State.peek_eq, State.peek_eq, if_neg h0, if_neg h0, h]

/-- The program window always answers (R77, R80). -/
theorem peek_program (s : State) {a : Word} (h : 0x8000 ≤ a.toNat) : ∃ v, s.peek a = some v := by
  rw [State.peek_eq, if_neg (by omega), if_pos (by omega), Cart.cpuRead, if_neg (by omega)]
  exact ⟨_, rfl⟩

end Sys2Proof.Machine
end

