-- ==== Sys2Proof/Laws/Decode.lean ====
section
/-! SUPPORT. The pieces of an encoding: the two bytes of a 16-bit operand, and how long an instruction can be. -/

namespace Sys2Proof

open Sys2Proof.Machine

/-- The two bytes of an operand make it up (R50). -/
theorem operandWord_parts (w : Word) : operandWord (operandLo w) (operandHi w) = w := word_hi_lo w

theorem operandLo_operandWord (l h : Byte) : operandLo (operandWord l h) = l := by
  apply BitVec.eq_of_toNat_eq
  show (lo (word h l)).toNat = _
  rw [lo_toNat, word_toNat]
  have := l.isLt
  omega

theorem operandHi_operandWord (l h : Byte) : operandHi (operandWord l h) = h := by
  apply BitVec.eq_of_toNat_eq
  show (hi (word h l)).toNat = _
  rw [hi_toNat, word_toNat]
  have := l.isLt
  omega

/-- An instruction has one to three bytes (R110). -/
theorem Instr.length_range (i : Instr) : 1 ≤ i.length ∧ i.length ≤ 3 := by
  unfold Instr.length
  cases i.mode with
  | none => decide
  | some m => cases m <;> decide

/-- Every byte is one of 256 literals. -/
theorem byte_cases (b : Byte) : ∃ n : Fin 256, b = BitVec.ofNat 8 n.val := ⟨⟨b.toNat, b.isLt⟩, by simp⟩

end Sys2Proof
end

