-- ==== Sys2Proof/Laws/Fields.lean ====
section
/-! SUPPORT. The fields of the audio registers in numbers, and counting down by one. -/

namespace Sys2Proof.Machine

/-- A bit field of a byte (R337 to R343). -/
theorem field_eq (v : Byte) (low n : Nat) : v.extractLsb' low n = BitVec.ofNat n (v.toNat / 2 ^ low % 2 ^ n) := by
  apply BitVec.eq_of_toNat_eq
  simp [BitVec.extractLsb'_toNat, Nat.shiftRight_eq_div_pow]

/-- The low byte of a timer period replaced (R339). -/
theorem timerLow_eq (n : BitVec 11) (v : Byte) : n.extractLsb' 8 3 ++ v = BitVec.ofNat 11 (n.toNat / 256 * 256 + v.toNat) := by
  have := n.isLt
  have := v.isLt
  apply BitVec.eq_of_toNat_eq
  show ((n.extractLsb' 8 3 ++ v : BitVec (3 + 8))).toNat = _
  rw [BitVec.toNat_append, ← Nat.shiftLeft_add_eq_or_of_lt (by omega), Nat.shiftLeft_eq, BitVec.extractLsb'_toNat,
    Nat.shiftRight_eq_div_pow, BitVec.toNat_ofNat]
  omega

/-- The high three bits of a timer period replaced (R340). -/
theorem timerHigh_eq (n : BitVec 11) (v : Byte) :
    v.extractLsb' 0 3 ++ n.extractLsb' 0 8 = BitVec.ofNat 11 (v.toNat / 2 ^ 0 % 2 ^ 3 * 256 + n.toNat % 256) := by
  have := n.isLt
  have := v.isLt
  apply BitVec.eq_of_toNat_eq
  show ((v.extractLsb' 0 3 ++ n.extractLsb' 0 8 : BitVec (3 + 8))).toNat = _
  rw [BitVec.toNat_append, ← Nat.shiftLeft_add_eq_or_of_lt (BitVec.isLt _), Nat.shiftLeft_eq, BitVec.extractLsb'_toNat,
    BitVec.extractLsb'_toNat, Nat.shiftRight_eq_div_pow, Nat.shiftRight_eq_div_pow, BitVec.toNat_ofNat]
  omega

/-- A counter that is not 0 counts down. -/
theorem countDown_eq {w : Nat} (n : BitVec w) (h : n ≠ 0) : n - 1 = BitVec.ofNat w (n.toNat - 1) := by
  have h0 : n.toNat ≠ 0 := fun h' => h (BitVec.eq_of_toNat_eq (by simpa using h'))
  have hn := n.isLt
  have hw : 1 < 2 ^ w := by omega
  apply BitVec.eq_of_toNat_eq
  rw [BitVec.toNat_sub, BitVec.toNat_ofNat, show BitVec.toNat (1 : BitVec w) = 1 from by
    rw [show (1 : BitVec w) = BitVec.ofNat w 1 from rfl, BitVec.toNat_ofNat, Nat.mod_eq_of_lt hw]]
  rw [show 2 ^ w - 1 + n.toNat = 2 ^ w + (n.toNat - 1) by omega, Nat.add_mod_left]

theorem eq_zero_iff {w : Nat} (n : BitVec w) : n = 0 ↔ n.toNat = 0 := by
  constructor
  · rintro rfl; simp
  · intro h; exact BitVec.eq_of_toNat_eq (by simpa using h)

end Sys2Proof.Machine
end

