-- ==== Sys2Proof/Laws/Stack.lean ====
section
/-! SUPPORT. The stack: where a push or pop is allowed it is its write or read in page 1 and nothing more,
and where it is not the machine stops. -/

namespace Sys2Proof.Machine

theorem byte_sub_toNat {a : Byte} {n : Nat} (h : n ≤ a.toNat) : (a - BitVec.ofNat 8 n).toNat = a.toNat - n := by
  have := a.isLt
  rw [BitVec.toNat_sub, BitVec.toNat_ofNat]
  omega

theorem pushFails_of_canPush {s : State} {n : Nat} (h : s.canPush (n + 1)) : pushFails s = false := by
  unfold pushFails
  rcases h with h | h
  · rw [h]; rfl
  · have h0 : ¬ s.sp = 0x00 := by intro h1; rw [h1] at h; simp at h
    rw [beq_eq_false_iff_ne.2 h0, Bool.and_false]

theorem popFails_of_canPop {s : State} {n : Nat} (h : s.canPop (n + 1)) : popFails s = false := by
  unfold popFails
  rcases h with h | h
  · rw [h]; rfl
  · have h0 : ¬ s.sp = 0xFF := by intro h1; rw [h1] at h; simp at h
    rw [beq_eq_false_iff_ne.2 h0, Bool.and_false]

theorem pushThen_of_canPush {s : State} {n : Nat} (h : s.canPush (n + 1)) (v : Byte) (k : State → State) :
    pushThen v k s = k (push v s) := by
  unfold pushThen; rw [pushFails_of_canPush h]; rfl

theorem popThen_of_canPop {s : State} {n : Nat} (h : s.canPop (n + 1)) (k : Byte → State → State) :
    popThen k s = k (pop s).1 (pop s).2 := by
  unfold popThen; rw [popFails_of_canPop h]; rfl

theorem canPush_push {s : State} {n : Nat} (h : s.canPush (n + 1)) (v : Byte) : (push v s).canPush n := by
  rw [push_eq]
  rcases h with h | h
  · exact .inl h
  · exact .inr (by have := byte_sub_toNat (a := s.sp) (n := 1) (by omega); show n ≤ (s.sp - BitVec.ofNat 8 1).toNat; omega)

theorem canPop_pop {s : State} {n : Nat} (h : s.canPop (n + 1)) : (pop s).2.canPop n := by
  rw [pop_eq]
  rcases h with h | h
  · exact .inl h
  · refine .inr ?_
    show (s.sp + 1).toNat + n ≤ 255
    rw [BitVec.toNat_add, show (1 : Byte).toNat = 1 from rfl, Nat.mod_eq_of_lt (by omega)]
    omega

/-- Two stack bytes pushed one after the other, or three, lie at different addresses, whatever the stack pointer. -/
theorem sp_sub_ne {a : Byte} {i j : Nat} (hi : i < 256) (hj : j < 256) (h : i ≠ j) :
    (a - BitVec.ofNat 8 i).toNat ≠ (a - BitVec.ofNat 8 j).toNat := by
  have := a.isLt
  rw [BitVec.toNat_sub, BitVec.toNat_sub, BitVec.toNat_ofNat, BitVec.toNat_ofNat]
  omega

/-- The k-th byte popped from `s`. -/
theorem stackByte_eq (s : State) (k : Nat) : s.stackByte k = s.ram.read (256 + (s.sp + BitVec.ofNat 8 k).toNat) := by
  unfold State.stackByte
  rw [BitVec.toNat_add, BitVec.toNat_ofNat]
  congr 2
  omega

/-- RAM after pushes, read outside them. -/
theorem pushedRam_read_other {k : Nat} (bytes : List Byte) (m : Memory) (sp : Byte)
    (h : ∀ a ∈ pushedAt sp bytes.length, k ≠ a.toNat) : (pushedRam m sp bytes).read k = m.read k := by
  induction bytes generalizing m sp with
  | nil => rfl
  | cons v rest ih =>
    simp only [List.length_cons, pushedAt, List.mem_cons, forall_eq_or_imp] at h
    unfold pushedRam
    rw [ih _ _ h.2, Memory.read_write_other]
    have := h.1; rw [stackAddr_toNat] at this; exact this

theorem pushedAt_range {sp : Byte} {n : Nat} {a : Word} (h : a ∈ pushedAt sp n) : 256 ≤ a.toNat ∧ a.toNat < 512 := by
  induction n generalizing sp with
  | zero => simp [pushedAt] at h
  | succ n ih =>
    simp only [pushedAt, List.mem_cons] at h
    rcases h with rfl | h
    · have := sp.isLt; rw [stackAddr_toNat]; omega
    · exact ih h

/-- Pushes change no memory but the stack bytes they write. -/
theorem changedOnlyAt_pushed {s t : State} (bytes : List Byte) (hr : t.ram = pushedRam s.ram s.sp bytes)
    (hc : t.cart = s.cart) : ChangedOnlyAt (pushedAt s.sp bytes.length) s t := by
  intro addr h
  rw [State.peek_eq, State.peek_eq, hc]
  by_cases h1 : addr.toNat < 0x2000
  · rw [if_pos h1, if_pos h1, hr, pushedRam_read_other]
    intro a ha
    have h2 := h a ha
    have h3 := pushedAt_range ha
    unfold cellOf at h2
    rw [if_pos h1, if_pos (show a.toNat < 0x2000 by omega)] at h2
    omega
  · rw [if_neg h1, if_neg h1]

theorem pushedRam_wf {m : Memory} (bytes : List Byte) (sp : Byte) (h : m.wf = true) : (pushedRam m sp bytes).wf = true := by
  induction bytes generalizing m sp with
  | nil => exact h
  | cons v rest ih => exact ih _ (Memory.write_wf _ _ h)

/-- A byte of the stack, as the bus shows it. -/
theorem peek_stackAddr (s : State) (sp : Byte) : s.peek (stackAddr sp) = some (s.ram.read (256 + sp.toNat)) := by
  have := sp.isLt
  have h := stackAddr_toNat sp
  rw [State.peek_eq, if_pos (by omega), h, Nat.mod_eq_of_lt (by omega)]

/-- Two bytes pushed read back where they lie. -/
theorem pushedRam_read_two {m : Memory} (hw : m.wf = true) (sp a b : Byte) :
    (pushedRam m sp [a, b]).read (256 + sp.toNat) = a ∧ (pushedRam m sp [a, b]).read (256 + (sp - 1).toNat) = b := by
  have h := sp_sub_ne (a := sp) (i := 0) (j := 1) (by omega) (by omega) (by omega)
  rw [show sp - BitVec.ofNat 8 0 = sp by simp, show sp - BitVec.ofNat 8 1 = sp - 1 from rfl] at h
  unfold pushedRam pushedRam pushedRam
  refine ⟨?_, Memory.read_write_self _ _ (Memory.write_wf _ _ hw)⟩
  rw [Memory.read_write_other _ _ (by omega), Memory.read_write_self _ _ hw]

/-- Three bytes pushed read back where they lie. -/
theorem pushedRam_read_three {m : Memory} (hw : m.wf = true) (sp a b c : Byte) :
    (pushedRam m sp [a, b, c]).read (256 + sp.toNat) = a ∧ (pushedRam m sp [a, b, c]).read (256 + (sp - 1).toNat) = b ∧
    (pushedRam m sp [a, b, c]).read (256 + (sp - 2).toNat) = c := by
  have h := sp_sub_ne (a := sp) (i := 0) (j := 1) (by omega) (by omega) (by omega)
  have h' := sp_sub_ne (a := sp) (i := 0) (j := 2) (by omega) (by omega) (by omega)
  have h'' := sp_sub_ne (a := sp) (i := 1) (j := 2) (by omega) (by omega) (by omega)
  have h0 : sp - BitVec.ofNat 8 0 = sp := by simp
  have h1 : sp - BitVec.ofNat 8 1 = sp - 1 := rfl
  have h2 : sp - BitVec.ofNat 8 2 = sp - 2 := rfl
  rw [h0, h1] at h
  rw [h0, h2] at h'
  rw [h1, h2] at h''
  have e : sp - 1 - 1 = sp - 2 := by rw [BitVec.sub_sub]; rfl
  unfold pushedRam pushedRam pushedRam pushedRam
  rw [e]
  refine ⟨?_, ?_, Memory.read_write_self _ _ (Memory.write_wf _ _ (Memory.write_wf _ _ hw))⟩
  · rw [Memory.read_write_other _ _ (by omega), Memory.read_write_other _ _ (by omega), Memory.read_write_self _ _ hw]
  · rw [Memory.read_write_other _ _ (by omega), Memory.read_write_self _ _ (Memory.write_wf _ _ hw)]

/-- Where it is allowed, pushing a word is its two writes (R61). -/
theorem push16Then_of_canPush {s : State} {n : Nat} (h : s.canPush (n + 2)) (w : Word) (k : State → State) :
    push16Then w k s = k (push (lo w) (push (hi w) s)) ∧ (push (lo w) (push (hi w) s)).canPush n ∧
    push (lo w) (push (hi w) s) = { s with sp := s.sp - 2, ram := pushedRam s.ram s.sp [hi w, lo w] } := by
  have h1 := canPush_push (n := n + 1) h (hi w)
  refine ⟨?_, canPush_push h1 _, ?_⟩
  · unfold push16Then
    rw [pushThen_of_canPush (n := n + 1) h, pushThen_of_canPush h1]
  · rw [push_eq, push_eq]
    have e : s.sp - 1 - 1 = s.sp - 2 := by rw [BitVec.sub_sub]; rfl
    simp only [e]
    rfl

/-- Where it is allowed, popping a word is its two reads (R61). -/
theorem pop16Then_of_canPop {s : State} {n : Nat} (h : s.canPop (n + 2)) (k : Word → State → State) :
    pop16Then k s = k (word (s.stackByte 2) (s.stackByte 1)) { s with sp := s.sp + 2 } := by
  have h1 := canPop_pop (n := n + 1) h
  unfold pop16Then
  rw [popThen_of_canPop (n := n + 1) h, popThen_of_canPop h1]
  simp only [pop_eq, stackByte_eq]
  have e : s.sp + 1 + 1 = s.sp + 2 := by rw [BitVec.add_assoc]; rfl
  simp only [e]
  rfl

/-- Taking an interrupt, where the pushes are allowed and storage answers at the vector (R309). -/
theorem enterInterrupt_of_canPush {s : State} (hc : s.canPush 3) (ret : Word) (b4 : Bool) (vec : Word) (l h : Byte)
    (hv : 0x2000 ≤ vec.toNat) (hv1 : 0x2000 ≤ (vec + 1).toNat) (h1 : s.peek vec = some l)
    (h2 : s.peek (vec + 1) = some h) :
    enterInterrupt ret b4 vec s =
      { s with
        pc := word h l, sp := s.sp - 3, flags := { s.flags with i := true }
        ram := pushedRam s.ram s.sp [hi ret, lo ret, statusOf b4 s.flags] }.counted (7 + s.extraCycles + s.stall) := by
  unfold enterInterrupt
  obtain ⟨e1, e2, e3⟩ := push16Then_of_canPush (n := 1) hc ret (fun t =>
    pushThen (pack b4 t.flags)
      (fun u =>
        let r := read16 vec (u.setFlags { u.flags with i := true })
        finish 7 (r.2.setPc r.1))
      t)
  rw [e1]
  rw [e3] at e2 ⊢
  dsimp only
  rw [pushThen_of_canPush (n := 0) e2, push_eq]
  dsimp only
  rw [read16_of_peek (l := l) (h := h) (by rw [← h1]; exact peek_above_ram (s := s) (by exact rfl) hv)
    (by rw [← h2]; exact peek_above_ram (s := s) (by exact rfl) hv1), pack_eq]
  have e : s.sp - 2 - 1 = s.sp - 3 := by rw [BitVec.sub_sub]; rfl
  have e' : s.sp - 1 - 1 = s.sp - 2 := by rw [BitVec.sub_sub]; rfl
  simp only [State.setFlags, State.setPc, finish, State.counted, State.stepCycles, e, pushedRam, e']

/-- Returning from an interrupt, where the pops are allowed (R254, R313). -/
theorem returnFromInterrupt_of_canPop {s : State} (hc : s.canPop 3) :
    returnFromInterrupt s =
      { s with
        pc := word (s.stackByte 3) (s.stackByte 2), sp := s.sp + 3
        flags := flagsOf (s.stackByte 1) }.counted (6 + s.extraCycles + s.stall) := by
  unfold returnFromInterrupt
  rw [popThen_of_canPop (n := 2) hc]
  have h1 := canPop_pop (n := 2) hc
  have h2 : ((pop s).2.setFlags (unpack (pop s).1)).canPop (0 + 2) := h1
  rw [pop16Then_of_canPop h2]
  simp only [pop_eq, stackByte_eq, State.setFlags]
  have e : s.sp + 1 + 2 = s.sp + 3 := by rw [BitVec.add_assoc]; rfl
  have e1 : s.sp + 1 + BitVec.ofNat 8 2 = s.sp + BitVec.ofNat 8 3 := by rw [BitVec.add_assoc]; rfl
  have e2 : s.sp + 1 + BitVec.ofNat 8 1 = s.sp + BitVec.ofNat 8 2 := by rw [BitVec.add_assoc]; rfl
  rw [e1, e2, e]
  rfl

/-- The fatal error of an exhausted stack (R300, R305). -/
theorem raiseFatal_exhausted (s : State) : raiseFatal .stackExhaustion s = s.exhausted := by
  unfold raiseFatal State.exhausted State.p
  rw [pack_eq]

/-- A push with no room stops the machine (R64). -/
theorem pushThen_exhausted {s : State} (hp : s.params.stackPolicy = .fatal) (h : s.sp = 0x00) (v : Byte)
    (k : State → State) : pushThen v k s = s.exhausted := by
  unfold pushThen pushFails
  rw [hp, h, raiseFatal_exhausted]
  rfl

/-- A pop with nothing held stops the machine (R64). -/
theorem popThen_exhausted {s : State} (hp : s.params.stackPolicy = .fatal) (h : s.sp = 0xFF) (k : Byte → State → State) :
    popThen k s = s.exhausted := by
  unfold popThen popFails
  rw [hp, h, raiseFatal_exhausted]
  rfl

/-- Pushing a word where the stack has room for fewer than two bytes: those that fit are stored (R61, R64, R305). -/
theorem push16Then_exhausted {s : State} (hp : s.params.stackPolicy = .fatal) (hr : s.sp.toNat < 2) (w : Word)
    (k : State → State) :
    push16Then w k s =
      { s with sp := 0x00, ram := pushedRam s.ram s.sp ([hi w, lo w].take s.sp.toNat) }.exhausted := by
  unfold push16Then
  rcases (show s.sp.toNat = 0 ∨ s.sp.toNat = 1 by omega) with h | h
  · have h : s.sp = 0x00 := BitVec.eq_of_toNat_eq h
    rw [pushThen_exhausted hp h]
    cases s; subst h; rfl
  · have h : s.sp = 0x01 := BitVec.eq_of_toNat_eq h
    rw [pushThen_of_canPush (n := 0) (.inr (by rw [h]; decide)), push_eq,
      pushThen_exhausted (by exact hp) (by dsimp only; rw [h]; rfl)]
    cases s; subst h; dsimp only; congr 2

/-- Popping a word where the stack holds fewer than two bytes (R61, R64, R305). -/
theorem pop16Then_exhausted {s : State} (hp : s.params.stackPolicy = .fatal) (hr : 253 < s.sp.toNat)
    (k : Word → State → State) : pop16Then k s = { s with sp := 0xFF }.exhausted := by
  have := s.sp.isLt
  unfold pop16Then
  rcases (show s.sp.toNat = 255 ∨ s.sp.toNat = 254 by omega) with h | h
  · have h : s.sp = 0xFF := BitVec.eq_of_toNat_eq h
    rw [popThen_exhausted hp h]
    cases s; subst h; rfl
  · have h : s.sp = 0xFE := BitVec.eq_of_toNat_eq h
    rw [popThen_of_canPop (n := 0) (.inr (by rw [h]; decide)), pop_eq,
      popThen_exhausted (by exact hp) (by dsimp only; rw [h]; rfl)]
    cases s; subst h; rfl

/-- Taking an interrupt where the stack has room for fewer than three bytes: those that fit are stored (R64, R305, R309). -/
theorem enterInterrupt_exhausted {s : State} (hp : s.params.stackPolicy = .fatal) (hr : s.sp.toNat < 3) (ret : Word)
    (b4 : Bool) (vec : Word) :
    enterInterrupt ret b4 vec s =
      { s with
        sp := 0x00
        ram := pushedRam s.ram s.sp ([hi ret, lo ret, statusOf b4 s.flags].take s.sp.toNat) }.exhausted := by
  unfold enterInterrupt push16Then
  rcases (show s.sp.toNat = 0 ∨ s.sp.toNat = 1 ∨ s.sp.toNat = 2 by omega) with h | h | h
  · have h : s.sp = 0x00 := BitVec.eq_of_toNat_eq h
    rw [pushThen_exhausted hp h]
    cases s; subst h; rfl
  · have h : s.sp = 0x01 := BitVec.eq_of_toNat_eq h
    rw [pushThen_of_canPush (n := 0) (.inr (by rw [h]; decide)), push_eq,
      pushThen_exhausted (by exact hp) (by dsimp only; rw [h]; rfl)]
    cases s; subst h; dsimp only; congr 2
  · have h : s.sp = 0x02 := BitVec.eq_of_toNat_eq h
    rw [pushThen_of_canPush (n := 1) (.inr (by rw [h]; decide)), push_eq,
      pushThen_of_canPush (n := 0) (.inr (by dsimp only; rw [h]; decide)), push_eq,
      pushThen_exhausted (by exact hp) (by dsimp only; rw [h]; rfl)]
    cases s; subst h; dsimp only; congr 2

end Sys2Proof.Machine
end

