-- ==== Sys2Proof/Laws/Keeps.lean ====
section
/-! SUPPORT. What each shared operation keeps: the parts of the invariant, what the loader fixed of the cartridge, the launch
parameters; inside a CPU step the cycle count and the steps owed; and what an APU step can change. -/

namespace Sys2Proof.Machine

/-- The part of the invariant about RAM. -/
structure RamInv (m : Memory) : Prop where
  wf : m.wf = true
  within : m.within ramSize = true

/-- The part of the invariant about the cartridge. -/
structure CartInv (c : Cart) : Prop where
  prgRamWf : c.prgRam.wf = true
  prgRamWithin : c.prgRam.within prgRamSize = true
  prgWf : c.prg.wf = true
  chrWf : c.chr.wf = true
  serial : c.shift.toNat < 2 ^ c.count.val

/-- The part of the invariant about the audio unit. -/
structure ApuInv (u : Apu) : Prop where
  frameStep : u.frameStep.toNat < frameSteps u.frameMode
  lfsr : u.noise.lfsr ≠ 0
  bitsLeft : u.dmc.bitsLeft.toNat ≤ 8
  sampleLen : u.dmc.sampleLen.toNat ≤ 4081
  bytesLeft : u.dmc.bytesLeft.toNat ≤ 4081

/-- What the loader fixed is the same in both cartridges. -/
structure SameBoard (c d : Cart) : Prop where
  prg : d.prg = c.prg
  prgLen : d.prgLen = c.prgLen
  nPrgBanks : d.nPrgBanks = c.nPrgBanks
  variant : d.variant = c.variant
  hasPrgRam : d.hasPrgRam = c.hasPrgRam
  chrLen : d.chrLen = c.chrLen
  chrIsRam : d.chrIsRam = c.chrIsRam
  chr : c.chrIsRam = false → d.chr = c.chr

theorem SameBoard.refl (c : Cart) : SameBoard c c := ⟨rfl, rfl, rfl, rfl, rfl, rfl, rfl, fun _ => rfl⟩

theorem SameBoard.trans {c d e : Cart} (h : SameBoard c d) (k : SameBoard d e) : SameBoard c e :=
  ⟨k.prg.trans h.prg, k.prgLen.trans h.prgLen, k.nPrgBanks.trans h.nPrgBanks, k.variant.trans h.variant,
   k.hasPrgRam.trans h.hasPrgRam, k.chrLen.trans h.chrLen, k.chrIsRam.trans h.chrIsRam,
   fun x => (k.chr (h.chrIsRam.trans x)).trans (h.chr x)⟩

/-- What everything inside a step keeps. -/
structure Keeps (s t : State) : Prop where
  ram : RamInv s.ram → RamInv t.ram
  cart : CartInv s.cart → CartInv t.cart
  apu : ApuInv s.apu → ApuInv t.apu
  board : SameBoard s.cart t.cart
  params : t.params = s.params
  boundaries : t.boundaries = s.boundaries

theorem Keeps.refl (s : State) : Keeps s s := ⟨id, id, id, .refl _, rfl, rfl⟩

theorem Keeps.trans {s t u : State} (h : Keeps s t) (k : Keeps t u) : Keeps s u :=
  ⟨k.ram ∘ h.ram, k.cart ∘ h.cart, k.apu ∘ h.apu, h.board.trans k.board, k.params.trans h.params,
   k.boundaries.trans h.boundaries⟩

/-- What everything inside a CPU step keeps before its cycles are counted. -/
structure CpuKeeps (s t : State) : Prop extends Keeps s t where
  cycles : t.cycles = s.cycles
  owed : t.apuOwed = s.apuOwed
  halted : t.halted = s.halted
  apuCycle : t.apu.apuCycle = s.apu.apuCycle

theorem CpuKeeps.refl (s : State) : CpuKeeps s s := ⟨.refl s, rfl, rfl, rfl, rfl⟩

theorem CpuKeeps.trans {s t u : State} (h : CpuKeeps s t) (k : CpuKeeps t u) : CpuKeeps s u :=
  ⟨h.toKeeps.trans k.toKeeps, k.cycles.trans h.cycles, k.owed.trans h.owed, k.halted.trans h.halted,
   k.apuCycle.trans h.apuCycle⟩

/-- Only registers and flags differ. -/
def RegistersOnly (s t : State) : Prop :=
  t = { s with a := t.a, x := t.x, y := t.y, sp := t.sp, pc := t.pc, flags := t.flags }

theorem RegistersOnly.keeps {s t : State} (h : RegistersOnly s t) : CpuKeeps s t := by
  unfold RegistersOnly at h
  rw [h]
  exact ⟨⟨id, id, id, .refl _, rfl, rfl⟩, rfl, rfl, rfl, rfl⟩

theorem setPc_keeps (s : State) (w : Word) : CpuKeeps s (s.setPc w) := RegistersOnly.keeps rfl
theorem setFlags_keeps (s : State) (f : Flags) : CpuKeeps s (s.setFlags f) := RegistersOnly.keeps rfl
theorem advance_keeps (s : State) (n : Nat) : CpuKeeps s (s.advance n) := RegistersOnly.keeps rfl

theorem Apu.afterStatusRead_inv {u : Apu} (h : ApuInv u) : ApuInv u.afterStatusRead := ⟨h.1, h.2, h.3, h.4, h.5⟩

theorem busRead_keeps (a : Word) (s : State) : CpuKeeps s (busRead a s).2 := by
  have hp : ∀ f, CpuKeeps s (readPort f s).2 := by
    intro f
    unfold readPort nextPortByte
    split <;> exact ⟨⟨id, id, id, .refl _, rfl, rfl⟩, rfl, rfl, rfl, rfl⟩
  have ho : CpuKeeps s (readOpenBus s).2 := ⟨⟨id, id, id, .refl _, rfl, rfl⟩, rfl, rfl, rfl, rfl⟩
  unfold busRead
  split
  · exact .refl s
  · exact hp _
  · exact ⟨⟨id, id, Apu.afterStatusRead_inv, .refl _, rfl, rfl⟩, rfl, rfl, rfl, rfl⟩
  · exact hp _
  · exact hp _
  · exact ho
  · exact ho
  · exact ho
  · split
    · exact .refl s
    · exact ho

theorem busRead_extraCycles (a : Word) (s : State) : (busRead a s).2.extraCycles = s.extraCycles := by
  have h := busRead_readsOnly a s
  unfold ReadsOnly at h
  rw [h]
  rfl

theorem dmaReads_keeps (page : Byte) (n i : Nat) (s : State) : CpuKeeps s (dmaReads page i n s).2 := by
  induction n generalizing i s with
  | zero => exact .refl s
  | succ n ih => exact (busRead_keeps _ s).trans (ih _ _)

theorem spriteDma_keeps (page : Byte) (s : State) : CpuKeeps s (spriteDma page s) := by
  have h := dmaReads_keeps page 256 0 s
  unfold spriteDma
  generalize dmaReads page 0 256 s = r at h
  exact ⟨⟨h.ram, h.cart, h.apu, h.board, h.params, h.boundaries⟩, h.cycles, h.owed, h.halted, h.apuCycle⟩

theorem sampleLen_le (v : Byte) : (BitVec.ofNat 12 (16 * v.toNat + 1)).toNat ≤ 4081 := by
  have := v.isLt
  rw [BitVec.toNat_ofNat]
  omega

/-- A write of the sample's enable bit keeps the sample counters in range (R344). -/
theorem Dmc.writeEnable_inv {d : Dmc} (on : Bool) (h1 : d.bitsLeft.toNat ≤ 8) (h2 : d.sampleLen.toNat ≤ 4081)
    (h3 : d.bytesLeft.toNat ≤ 4081) :
    (d.writeEnable on).bitsLeft.toNat ≤ 8 ∧ (d.writeEnable on).sampleLen.toNat ≤ 4081 ∧
    (d.writeEnable on).bytesLeft.toNat ≤ 4081 := by
  unfold Dmc.writeEnable
  split
  · split
    · exact ⟨h1, h2, h2⟩
    · exact ⟨h1, h2, h3⟩
  · exact ⟨h1, h2, Nat.zero_le _⟩

theorem frameSteps_range (m : Bool) : 0 < frameSteps m ∧ frameSteps m ≤ 5 := by cases m <;> decide

theorem Apu.writeFrame_eq (u : Apu) (v : Byte) :
    (u.writeFrame v).frameStep = 0 ∧ (u.writeFrame v).noise.lfsr = u.noise.lfsr ∧ (u.writeFrame v).dmc = u.dmc ∧
    (u.writeFrame v).apuCycle = u.apuCycle := by
  unfold Apu.writeFrame
  dsimp only
  split <;> exact ⟨rfl, rfl, rfl, rfl⟩

theorem Apu.regWrite_inv (u : Apu) (r : Nat) (v : Byte) (h : ApuInv u) : ApuInv (u.regWrite r v) := by
  obtain ⟨h1, h2, h3, h4, h5⟩ := h
  unfold Apu.regWrite
  split
  all_goals first | exact ⟨h1, h2, h3, h4, h5⟩ | skip
  · exact ⟨h1, h2, h3, sampleLen_le v, h5⟩
  · obtain ⟨a, b, c⟩ := Dmc.writeEnable_inv (d := u.dmc) (v.getLsbD 4) h3 h4 h5
    exact ⟨h1, h2, a, b, c⟩
  · obtain ⟨a, b, c, _⟩ := Apu.writeFrame_eq u v
    refine ⟨?_, b ▸ h2, c ▸ h3, c ▸ h4, c ▸ h5⟩
    rw [a]
    exact (frameSteps_range _).1

theorem Apu.regWrite_apuCycle (u : Apu) (r : Nat) (v : Byte) : (u.regWrite r v).apuCycle = u.apuCycle := by
  unfold Apu.regWrite
  split <;> first | rfl | exact (Apu.writeFrame_eq u v).2.2.2

/-- The serial port holds no bit it has not counted (R82). -/
theorem serialShift_lt (sh : BitVec 5) (c : Fin 5) (b : Bool) (h : sh.toNat < 2 ^ c.val) (hc : c ≠ 4) :
    (sh ||| (BitVec.ofBool b).setWidth 5 <<< c.val).toNat < 2 ^ (c + 1).val := by
  revert sh c b
  decide

theorem Cart.commit_sameBoard (c : Cart) (a : Word) (v : BitVec 5) :
    SameBoard c (c.commit a v) ∧ (c.commit a v).prgRam = c.prgRam ∧ (c.commit a v).chr = c.chr := by
  unfold Cart.commit
  split <;> exact ⟨⟨rfl, rfl, rfl, rfl, rfl, rfl, rfl, fun _ => rfl⟩, rfl, rfl⟩

theorem Cart.serialWrite_keeps (c : Cart) (a : Word) (v : Byte) :
    SameBoard c (c.serialWrite a v) ∧ (CartInv c → CartInv (c.serialWrite a v)) := by
  unfold Cart.serialWrite
  split
  · exact ⟨⟨rfl, rfl, rfl, rfl, rfl, rfl, rfl, fun _ => rfl⟩, fun h => ⟨h.1, h.2, h.3, h.4, Nat.one_pos⟩⟩
  · dsimp only
    split
    · obtain ⟨⟨a1, a2, a3, a4, a5, a6, a7, a8⟩, b1, b2⟩ :=
        Cart.commit_sameBoard c a (c.shift ||| ((BitVec.ofBool (v.getLsbD 0)).setWidth 5 <<< c.count.val))
      exact ⟨⟨a1, a2, a3, a4, a5, a6, a7, a8⟩,
        fun h => ⟨b1.symm ▸ h.1, b1.symm ▸ h.2, a1.symm ▸ h.3, b2.symm ▸ h.4, Nat.one_pos⟩⟩
    · next hc =>
      exact ⟨⟨rfl, rfl, rfl, rfl, rfl, rfl, rfl, fun _ => rfl⟩,
        fun h => ⟨h.1, h.2, h.3, h.4, serialShift_lt _ _ _ h.5 hc⟩⟩

/-- A CPU write keeps the canonical form of every memory on the cartridge, and what the loader fixed. -/
theorem Cart.cpuWrite_keeps (c : Cart) (a : Word) (v : Byte) :
    SameBoard c (c.cpuWrite a v) ∧ (CartInv c → CartInv (c.cpuWrite a v)) := by
  unfold Cart.cpuWrite
  split
  · split
    · exact ⟨⟨rfl, rfl, rfl, rfl, rfl, rfl, rfl, fun _ => rfl⟩, fun h =>
        ⟨Memory.write_wf _ _ h.1, Memory.write_within _ _ h.2 (Nat.mod_lt _ (by decide)), h.3, h.4, h.5⟩⟩
    · exact ⟨.refl c, id⟩
  · split
    · exact ⟨.refl c, id⟩
    · exact Cart.serialWrite_keeps c a v

/-- A write of the graphics side keeps them too (R87). -/
theorem Cart.chrWrite_keeps (c : Cart) (a : BitVec 13) (v : Byte) :
    SameBoard c (c.chrWrite a v) ∧ (CartInv c → CartInv (c.chrWrite a v)) := by
  unfold Cart.chrWrite
  split
  · next h =>
    exact ⟨⟨rfl, rfl, rfl, rfl, rfl, rfl, rfl, fun k => absurd h (by rw [k]; simp)⟩,
      fun h => ⟨h.1, h.2, h.3, Memory.write_wf _ _ h.4, h.5⟩⟩
  · exact ⟨.refl c, id⟩

theorem busWrite_keeps (a : Word) (v : Byte) (s : State) : CpuKeeps s (busWrite a v s) := by
  have ha : CpuKeeps s (writeAudio a v s) := by
    unfold writeAudio
    generalize hr : s.apu.regWrite (a.toNat % 0x20) v = u
    exact ⟨⟨id, id, fun h => hr ▸ Apu.regWrite_inv _ _ _ h, .refl _, rfl, rfl⟩, rfl, rfl, rfl,
      hr ▸ Apu.regWrite_apuCycle _ _ _⟩
  have hd : ∀ o, CpuKeeps s (s.deliver o) := fun o => ⟨⟨id, id, id, .refl _, rfl, rfl⟩, rfl, rfl, rfl, rfl⟩
  unfold busWrite
  split
  · exact ⟨⟨fun h => ⟨Memory.write_wf _ _ h.1, Memory.write_within _ _ h.2 (Nat.mod_lt _ (by decide))⟩, id, id,
      .refl _, rfl, rfl⟩, rfl, rfl, rfl, rfl⟩
  · exact hd _
  · exact ha
  · exact ha
  · exact ha
  · exact spriteDma_keeps v s
  · exact hd _
  · exact .refl s
  · obtain ⟨a1, a2⟩ := Cart.cpuWrite_keeps s.cart a v
    exact ⟨⟨id, a2, id, a1, rfl, rfl⟩, rfl, rfl, rfl, rfl⟩

theorem read16_keeps (a : Word) (s : State) : CpuKeeps s (read16 a s).2 := (busRead_keeps _ _).trans (busRead_keeps _ _)
theorem read16Bug_keeps (a : Word) (s : State) : CpuKeeps s (read16Bug a s).2 :=
  (busRead_keeps _ _).trans (busRead_keeps _ _)

theorem push_keeps (v : Byte) (s : State) : CpuKeeps s (push v s) :=
  (busWrite_keeps _ v s).trans (RegistersOnly.keeps rfl)
theorem pop_keeps (s : State) : CpuKeeps s (pop s).2 :=
  (RegistersOnly.keeps (t := s.setSp (s.sp + 1)) rfl).trans (busRead_keeps _ _)

/-- What a CPU step comes to: changes that keep the invariant's parts and the counts, and then either the end of a step of at
least two cycles or a fatal error with no cycle counted. -/
def EndsStep (s t : State) : Prop :=
  ∃ u, CpuKeeps s u ∧
    ((∃ n, 2 ≤ n ∧ t = finish n u) ∨ (u.extraCycles = s.extraCycles ∧ ∃ e, t = raiseFatal e u))

theorem EndsStep.finish {s u : State} (n : Nat) (h : CpuKeeps s u) (hn : 2 ≤ n) : EndsStep s (finish n u) :=
  ⟨u, h, .inl ⟨n, hn, rfl⟩⟩

theorem EndsStep.raise (e : FatalError) (s : State) : EndsStep s (raiseFatal e s) := ⟨s, .refl s, .inr ⟨rfl, e, rfl⟩⟩

theorem EndsStep.of {s t r : State} (h : CpuKeeps s t) (he : t.extraCycles = s.extraCycles) (k : EndsStep t r) :
    EndsStep s r := by
  obtain ⟨u, k1, k2 | k2⟩ := k
  · exact ⟨u, h.trans k1, .inl k2⟩
  · exact ⟨u, h.trans k1, .inr ⟨k2.1.trans he, k2.2⟩⟩

theorem pushThen_endsStep {v : Byte} {k : State → State} {s : State} (h : EndsStep (push v s) (k (push v s))) :
    EndsStep s (pushThen v k s) := by
  unfold pushThen
  split
  · exact .raise _ s
  · exact h.of (push_keeps v s) (by rw [push_eq])

theorem popThen_endsStep {k : Byte → State → State} {s : State} (h : EndsStep (pop s).2 (k (pop s).1 (pop s).2)) :
    EndsStep s (popThen k s) := by
  unfold popThen
  split
  · exact .raise _ s
  · exact h.of (pop_keeps s) (by rw [pop_eq])

/-- Taking an interrupt ends a step (R309). -/
theorem enterInterrupt_endsStep (ret : Word) (b4 : Bool) (vec : Word) (s : State) :
    EndsStep s (enterInterrupt ret b4 vec s) := by
  unfold enterInterrupt push16Then
  refine pushThen_endsStep (pushThen_endsStep (pushThen_endsStep ?_))
  generalize push (pack b4 _) _ = u
  exact .finish 7 (((setFlags_keeps _ _).trans (read16_keeps _ _)).trans (setPc_keeps _ _)) (by omega)

/-- So does returning from one (R254). -/
theorem returnFromInterrupt_endsStep (s : State) : EndsStep s (returnFromInterrupt s) := by
  unfold returnFromInterrupt pop16Then
  refine popThen_endsStep ?_
  refine EndsStep.of (setFlags_keeps _ _) (by rfl) (popThen_endsStep (popThen_endsStep ?_))
  exact .finish 6 (setPc_keeps _ _) (by omega)

/-- A mode that resolves without touching anything but what reads touch. -/
def KeepsMode (m : State → Resolved) : Prop := ∀ s, CpuKeeps s (m s).state

theorem zeroPage_keeps (zp : Byte) : KeepsMode (zeroPage zp) := fun s => .refl s
theorem zeroPageX_keeps (zp : Byte) : KeepsMode (zeroPageX zp) := fun s => .refl s
theorem zeroPageY_keeps (zp : Byte) : KeepsMode (zeroPageY zp) := fun s => .refl s
theorem absolute_keeps (w : Word) : KeepsMode (absolute w) := fun s => .refl s
theorem absoluteX_keeps (w : Word) : KeepsMode (absoluteX w) := fun s => .refl s
theorem absoluteY_keeps (w : Word) : KeepsMode (absoluteY w) := fun s => .refl s
theorem indexedIndirect_keeps (zp : Byte) : KeepsMode (indexedIndirect zp) := fun s => read16Bug_keeps _ s
theorem indirectIndexed_keeps (zp : Byte) : KeepsMode (indirectIndexed zp) := fun s => read16Bug_keeps _ s
theorem indirect_keeps (w : Word) : KeepsMode (indirect w) := fun s => read16Bug_keeps _ s

theorem impliedStep_endsStep {f : State → State} (hf : ∀ s, RegistersOnly s (f s)) {b : Nat} (hb : 2 ≤ b) (s : State) :
    EndsStep s (impliedStep b f s) :=
  .finish b ((advance_keeps s 1).trans (hf _).keeps) hb

theorem accumulatorStep_endsStep {g : Bool → Byte → Byte} {f : Byte → Byte → State → State}
    (hf : ∀ m r s, RegistersOnly s (f m r s)) {b : Nat} (hb : 2 ≤ b) (s : State) : EndsStep s (accumulatorStep b g f s) :=
  .finish b (((advance_keeps s 1).trans (RegistersOnly.keeps (by exact rfl))).trans (hf _ _ _).keeps) hb

theorem immediateStep_endsStep {f : Byte → State → State} (hf : ∀ m s, RegistersOnly s (f m s)) (m : Byte) {b : Nat}
    (hb : 2 ≤ b) (s : State) : EndsStep s (immediateStep b f m s) :=
  .finish b ((advance_keeps s 2).trans (hf _ _).keeps) hb

theorem readStep_endsStep {f : Byte → State → State} (hf : ∀ m s, RegistersOnly s (f m s)) {mode : State → Resolved}
    (hm : KeepsMode mode) (len : Nat) {b : Nat} (marked : Bool) (hb : 2 ≤ b) (s : State) :
    EndsStep s (readStep len b marked mode f s) :=
  .finish _ ((((advance_keeps s len).trans (hm _)).trans (busRead_keeps _ _)).trans (hf _ _).keeps) (by omega)

theorem storeStep_endsStep (v : State → Byte) {mode : State → Resolved} (hm : KeepsMode mode) (len : Nat) {b : Nat}
    (hb : 2 ≤ b) (s : State) : EndsStep s (storeStep len b mode v s) :=
  .finish _ (((advance_keeps s len).trans (hm _)).trans (busWrite_keeps _ _ _)) hb

theorem modifyStep_endsStep (g : Bool → Byte → Byte) {f : Byte → Byte → State → State}
    (hf : ∀ m r s, RegistersOnly s (f m r s)) {mode : State → Resolved} (hm : KeepsMode mode) (len : Nat) {b : Nat}
    (hb : 2 ≤ b) (s : State) : EndsStep s (modifyStep len b mode g f s) :=
  .finish _ (((((advance_keeps s len).trans (hm _)).trans (busRead_keeps _ _)).trans (busWrite_keeps _ _ _)).trans
    (hf _ _ _).keeps) hb

theorem branchStep_endsStep (taken : Bool) (off : Byte) (s : State) : EndsStep s (branchStep taken off s) := by
  unfold branchStep
  dsimp only
  split
  · exact .finish _ ((advance_keeps s 2).trans (RegistersOnly.keeps rfl)) (by omega)
  · exact .finish _ (advance_keeps s 2) (by omega)

theorem undocumented_endsStep {op : Byte} {f : State → State} {s : State} (h : EndsStep s (f s)) :
    EndsStep s (undocumented op f s) := by
  unfold undocumented
  split
  · exact h
  · exact .raise _ s

end Sys2Proof.Machine
end

