-- ==== Sys2Proof/Laws/PerInstr.lean ====
section
/-! SUPPORT. The statement made once per instruction: what its encoding fixes, and one lemma per constructor of Instr. -/

namespace Sys2Proof.Laws

open Sys2Proof

/-- The encoding has the instruction's length, and the opcode byte alone fixes the class and the length of the instruction
(R110, R128). -/
def Encoding.Statement (i : Instr) : Prop :=
  (encode i).length = i.length ∧
  (i.wellFormed = true → (instrOf i.opcode 0 0).status = i.status ∧ (instrOf i.opcode 0 0).length = i.length)

/-- The statement from the opcode byte written out. -/
theorem Encoding.of_opcode {i : Instr} (op : Byte) (h : i.opcode = op) (hl : (encode i).length = i.length)
    (hs : (instrOf op 0 0).status = i.status) (hn : (instrOf op 0 0).length = i.length) : Encoding.Statement i :=
  ⟨hl, fun _ => by rw [h]; exact ⟨hs, hn⟩⟩

theorem Encoding.brk : Encoding.Statement .brk :=
  Encoding.of_opcode 0x00 rfl rfl rfl rfl
theorem Encoding.oraIndexedIndirect (v : Byte) : Encoding.Statement (.oraIndexedIndirect v) :=
  Encoding.of_opcode 0x01 rfl rfl rfl rfl
theorem Encoding.sloIndexedIndirect (v : Byte) : Encoding.Statement (.sloIndexedIndirect v) :=
  Encoding.of_opcode 0x03 rfl rfl rfl rfl
theorem Encoding.nopZeroPage04 (v : Byte) : Encoding.Statement (.nopZeroPage04 v) :=
  Encoding.of_opcode 0x04 rfl rfl rfl rfl
theorem Encoding.oraZeroPage (v : Byte) : Encoding.Statement (.oraZeroPage v) :=
  Encoding.of_opcode 0x05 rfl rfl rfl rfl
theorem Encoding.aslZeroPage (v : Byte) : Encoding.Statement (.aslZeroPage v) :=
  Encoding.of_opcode 0x06 rfl rfl rfl rfl
theorem Encoding.sloZeroPage (v : Byte) : Encoding.Statement (.sloZeroPage v) :=
  Encoding.of_opcode 0x07 rfl rfl rfl rfl
theorem Encoding.php : Encoding.Statement .php :=
  Encoding.of_opcode 0x08 rfl rfl rfl rfl
theorem Encoding.oraImmediate (v : Byte) : Encoding.Statement (.oraImmediate v) :=
  Encoding.of_opcode 0x09 rfl rfl rfl rfl
theorem Encoding.aslAccumulator : Encoding.Statement .aslAccumulator :=
  Encoding.of_opcode 0x0A rfl rfl rfl rfl
theorem Encoding.nopAbsolute0C (w : Word) : Encoding.Statement (.nopAbsolute0C w) :=
  Encoding.of_opcode 0x0C rfl rfl rfl rfl
theorem Encoding.oraAbsolute (w : Word) : Encoding.Statement (.oraAbsolute w) :=
  Encoding.of_opcode 0x0D rfl rfl rfl rfl
theorem Encoding.aslAbsolute (w : Word) : Encoding.Statement (.aslAbsolute w) :=
  Encoding.of_opcode 0x0E rfl rfl rfl rfl
theorem Encoding.sloAbsolute (w : Word) : Encoding.Statement (.sloAbsolute w) :=
  Encoding.of_opcode 0x0F rfl rfl rfl rfl
theorem Encoding.bpl (v : Byte) : Encoding.Statement (.bpl v) :=
  Encoding.of_opcode 0x10 rfl rfl rfl rfl
theorem Encoding.oraIndirectIndexed (v : Byte) : Encoding.Statement (.oraIndirectIndexed v) :=
  Encoding.of_opcode 0x11 rfl rfl rfl rfl
theorem Encoding.sloIndirectIndexed (v : Byte) : Encoding.Statement (.sloIndirectIndexed v) :=
  Encoding.of_opcode 0x13 rfl rfl rfl rfl
theorem Encoding.nopZeroPageX14 (v : Byte) : Encoding.Statement (.nopZeroPageX14 v) :=
  Encoding.of_opcode 0x14 rfl rfl rfl rfl
theorem Encoding.oraZeroPageX (v : Byte) : Encoding.Statement (.oraZeroPageX v) :=
  Encoding.of_opcode 0x15 rfl rfl rfl rfl
theorem Encoding.aslZeroPageX (v : Byte) : Encoding.Statement (.aslZeroPageX v) :=
  Encoding.of_opcode 0x16 rfl rfl rfl rfl
theorem Encoding.sloZeroPageX (v : Byte) : Encoding.Statement (.sloZeroPageX v) :=
  Encoding.of_opcode 0x17 rfl rfl rfl rfl
theorem Encoding.clc : Encoding.Statement .clc :=
  Encoding.of_opcode 0x18 rfl rfl rfl rfl
theorem Encoding.oraAbsoluteY (w : Word) : Encoding.Statement (.oraAbsoluteY w) :=
  Encoding.of_opcode 0x19 rfl rfl rfl rfl
theorem Encoding.nopImplied1A : Encoding.Statement .nopImplied1A :=
  Encoding.of_opcode 0x1A rfl rfl rfl rfl
theorem Encoding.sloAbsoluteY (w : Word) : Encoding.Statement (.sloAbsoluteY w) :=
  Encoding.of_opcode 0x1B rfl rfl rfl rfl
theorem Encoding.nopAbsoluteX1C (w : Word) : Encoding.Statement (.nopAbsoluteX1C w) :=
  Encoding.of_opcode 0x1C rfl rfl rfl rfl
theorem Encoding.oraAbsoluteX (w : Word) : Encoding.Statement (.oraAbsoluteX w) :=
  Encoding.of_opcode 0x1D rfl rfl rfl rfl
theorem Encoding.aslAbsoluteX (w : Word) : Encoding.Statement (.aslAbsoluteX w) :=
  Encoding.of_opcode 0x1E rfl rfl rfl rfl
theorem Encoding.sloAbsoluteX (w : Word) : Encoding.Statement (.sloAbsoluteX w) :=
  Encoding.of_opcode 0x1F rfl rfl rfl rfl
theorem Encoding.jsrAbsolute (w : Word) : Encoding.Statement (.jsrAbsolute w) :=
  Encoding.of_opcode 0x20 rfl rfl rfl rfl
theorem Encoding.andIndexedIndirect (v : Byte) : Encoding.Statement (.andIndexedIndirect v) :=
  Encoding.of_opcode 0x21 rfl rfl rfl rfl
theorem Encoding.rlaIndexedIndirect (v : Byte) : Encoding.Statement (.rlaIndexedIndirect v) :=
  Encoding.of_opcode 0x23 rfl rfl rfl rfl
theorem Encoding.bitZeroPage (v : Byte) : Encoding.Statement (.bitZeroPage v) :=
  Encoding.of_opcode 0x24 rfl rfl rfl rfl
theorem Encoding.andZeroPage (v : Byte) : Encoding.Statement (.andZeroPage v) :=
  Encoding.of_opcode 0x25 rfl rfl rfl rfl
theorem Encoding.rolZeroPage (v : Byte) : Encoding.Statement (.rolZeroPage v) :=
  Encoding.of_opcode 0x26 rfl rfl rfl rfl
theorem Encoding.rlaZeroPage (v : Byte) : Encoding.Statement (.rlaZeroPage v) :=
  Encoding.of_opcode 0x27 rfl rfl rfl rfl
theorem Encoding.plp : Encoding.Statement .plp :=
  Encoding.of_opcode 0x28 rfl rfl rfl rfl
theorem Encoding.andImmediate (v : Byte) : Encoding.Statement (.andImmediate v) :=
  Encoding.of_opcode 0x29 rfl rfl rfl rfl
theorem Encoding.rolAccumulator : Encoding.Statement .rolAccumulator :=
  Encoding.of_opcode 0x2A rfl rfl rfl rfl
theorem Encoding.bitAbsolute (w : Word) : Encoding.Statement (.bitAbsolute w) :=
  Encoding.of_opcode 0x2C rfl rfl rfl rfl
theorem Encoding.andAbsolute (w : Word) : Encoding.Statement (.andAbsolute w) :=
  Encoding.of_opcode 0x2D rfl rfl rfl rfl
theorem Encoding.rolAbsolute (w : Word) : Encoding.Statement (.rolAbsolute w) :=
  Encoding.of_opcode 0x2E rfl rfl rfl rfl
theorem Encoding.rlaAbsolute (w : Word) : Encoding.Statement (.rlaAbsolute w) :=
  Encoding.of_opcode 0x2F rfl rfl rfl rfl
theorem Encoding.bmi (v : Byte) : Encoding.Statement (.bmi v) :=
  Encoding.of_opcode 0x30 rfl rfl rfl rfl
theorem Encoding.andIndirectIndexed (v : Byte) : Encoding.Statement (.andIndirectIndexed v) :=
  Encoding.of_opcode 0x31 rfl rfl rfl rfl
theorem Encoding.rlaIndirectIndexed (v : Byte) : Encoding.Statement (.rlaIndirectIndexed v) :=
  Encoding.of_opcode 0x33 rfl rfl rfl rfl
theorem Encoding.nopZeroPageX34 (v : Byte) : Encoding.Statement (.nopZeroPageX34 v) :=
  Encoding.of_opcode 0x34 rfl rfl rfl rfl
theorem Encoding.andZeroPageX (v : Byte) : Encoding.Statement (.andZeroPageX v) :=
  Encoding.of_opcode 0x35 rfl rfl rfl rfl
theorem Encoding.rolZeroPageX (v : Byte) : Encoding.Statement (.rolZeroPageX v) :=
  Encoding.of_opcode 0x36 rfl rfl rfl rfl
theorem Encoding.rlaZeroPageX (v : Byte) : Encoding.Statement (.rlaZeroPageX v) :=
  Encoding.of_opcode 0x37 rfl rfl rfl rfl
theorem Encoding.sec : Encoding.Statement .sec :=
  Encoding.of_opcode 0x38 rfl rfl rfl rfl
theorem Encoding.andAbsoluteY (w : Word) : Encoding.Statement (.andAbsoluteY w) :=
  Encoding.of_opcode 0x39 rfl rfl rfl rfl
theorem Encoding.nopImplied3A : Encoding.Statement .nopImplied3A :=
  Encoding.of_opcode 0x3A rfl rfl rfl rfl
theorem Encoding.rlaAbsoluteY (w : Word) : Encoding.Statement (.rlaAbsoluteY w) :=
  Encoding.of_opcode 0x3B rfl rfl rfl rfl
theorem Encoding.nopAbsoluteX3C (w : Word) : Encoding.Statement (.nopAbsoluteX3C w) :=
  Encoding.of_opcode 0x3C rfl rfl rfl rfl
theorem Encoding.andAbsoluteX (w : Word) : Encoding.Statement (.andAbsoluteX w) :=
  Encoding.of_opcode 0x3D rfl rfl rfl rfl
theorem Encoding.rolAbsoluteX (w : Word) : Encoding.Statement (.rolAbsoluteX w) :=
  Encoding.of_opcode 0x3E rfl rfl rfl rfl
theorem Encoding.rlaAbsoluteX (w : Word) : Encoding.Statement (.rlaAbsoluteX w) :=
  Encoding.of_opcode 0x3F rfl rfl rfl rfl
theorem Encoding.rti : Encoding.Statement .rti :=
  Encoding.of_opcode 0x40 rfl rfl rfl rfl
theorem Encoding.eorIndexedIndirect (v : Byte) : Encoding.Statement (.eorIndexedIndirect v) :=
  Encoding.of_opcode 0x41 rfl rfl rfl rfl
theorem Encoding.sreIndexedIndirect (v : Byte) : Encoding.Statement (.sreIndexedIndirect v) :=
  Encoding.of_opcode 0x43 rfl rfl rfl rfl
theorem Encoding.nopZeroPage44 (v : Byte) : Encoding.Statement (.nopZeroPage44 v) :=
  Encoding.of_opcode 0x44 rfl rfl rfl rfl
theorem Encoding.eorZeroPage (v : Byte) : Encoding.Statement (.eorZeroPage v) :=
  Encoding.of_opcode 0x45 rfl rfl rfl rfl
theorem Encoding.lsrZeroPage (v : Byte) : Encoding.Statement (.lsrZeroPage v) :=
  Encoding.of_opcode 0x46 rfl rfl rfl rfl
theorem Encoding.sreZeroPage (v : Byte) : Encoding.Statement (.sreZeroPage v) :=
  Encoding.of_opcode 0x47 rfl rfl rfl rfl
theorem Encoding.pha : Encoding.Statement .pha :=
  Encoding.of_opcode 0x48 rfl rfl rfl rfl
theorem Encoding.eorImmediate (v : Byte) : Encoding.Statement (.eorImmediate v) :=
  Encoding.of_opcode 0x49 rfl rfl rfl rfl
theorem Encoding.lsrAccumulator : Encoding.Statement .lsrAccumulator :=
  Encoding.of_opcode 0x4A rfl rfl rfl rfl
theorem Encoding.jmpAbsolute (w : Word) : Encoding.Statement (.jmpAbsolute w) :=
  Encoding.of_opcode 0x4C rfl rfl rfl rfl
theorem Encoding.eorAbsolute (w : Word) : Encoding.Statement (.eorAbsolute w) :=
  Encoding.of_opcode 0x4D rfl rfl rfl rfl
theorem Encoding.lsrAbsolute (w : Word) : Encoding.Statement (.lsrAbsolute w) :=
  Encoding.of_opcode 0x4E rfl rfl rfl rfl
theorem Encoding.sreAbsolute (w : Word) : Encoding.Statement (.sreAbsolute w) :=
  Encoding.of_opcode 0x4F rfl rfl rfl rfl
theorem Encoding.bvc (v : Byte) : Encoding.Statement (.bvc v) :=
  Encoding.of_opcode 0x50 rfl rfl rfl rfl
theorem Encoding.eorIndirectIndexed (v : Byte) : Encoding.Statement (.eorIndirectIndexed v) :=
  Encoding.of_opcode 0x51 rfl rfl rfl rfl
theorem Encoding.sreIndirectIndexed (v : Byte) : Encoding.Statement (.sreIndirectIndexed v) :=
  Encoding.of_opcode 0x53 rfl rfl rfl rfl
theorem Encoding.nopZeroPageX54 (v : Byte) : Encoding.Statement (.nopZeroPageX54 v) :=
  Encoding.of_opcode 0x54 rfl rfl rfl rfl
theorem Encoding.eorZeroPageX (v : Byte) : Encoding.Statement (.eorZeroPageX v) :=
  Encoding.of_opcode 0x55 rfl rfl rfl rfl
theorem Encoding.lsrZeroPageX (v : Byte) : Encoding.Statement (.lsrZeroPageX v) :=
  Encoding.of_opcode 0x56 rfl rfl rfl rfl
theorem Encoding.sreZeroPageX (v : Byte) : Encoding.Statement (.sreZeroPageX v) :=
  Encoding.of_opcode 0x57 rfl rfl rfl rfl
theorem Encoding.cli : Encoding.Statement .cli :=
  Encoding.of_opcode 0x58 rfl rfl rfl rfl
theorem Encoding.eorAbsoluteY (w : Word) : Encoding.Statement (.eorAbsoluteY w) :=
  Encoding.of_opcode 0x59 rfl rfl rfl rfl
theorem Encoding.nopImplied5A : Encoding.Statement .nopImplied5A :=
  Encoding.of_opcode 0x5A rfl rfl rfl rfl
theorem Encoding.sreAbsoluteY (w : Word) : Encoding.Statement (.sreAbsoluteY w) :=
  Encoding.of_opcode 0x5B rfl rfl rfl rfl
theorem Encoding.nopAbsoluteX5C (w : Word) : Encoding.Statement (.nopAbsoluteX5C w) :=
  Encoding.of_opcode 0x5C rfl rfl rfl rfl
theorem Encoding.eorAbsoluteX (w : Word) : Encoding.Statement (.eorAbsoluteX w) :=
  Encoding.of_opcode 0x5D rfl rfl rfl rfl
theorem Encoding.lsrAbsoluteX (w : Word) : Encoding.Statement (.lsrAbsoluteX w) :=
  Encoding.of_opcode 0x5E rfl rfl rfl rfl
theorem Encoding.sreAbsoluteX (w : Word) : Encoding.Statement (.sreAbsoluteX w) :=
  Encoding.of_opcode 0x5F rfl rfl rfl rfl
theorem Encoding.rts : Encoding.Statement .rts :=
  Encoding.of_opcode 0x60 rfl rfl rfl rfl
theorem Encoding.adcIndexedIndirect (v : Byte) : Encoding.Statement (.adcIndexedIndirect v) :=
  Encoding.of_opcode 0x61 rfl rfl rfl rfl
theorem Encoding.rraIndexedIndirect (v : Byte) : Encoding.Statement (.rraIndexedIndirect v) :=
  Encoding.of_opcode 0x63 rfl rfl rfl rfl
theorem Encoding.nopZeroPage64 (v : Byte) : Encoding.Statement (.nopZeroPage64 v) :=
  Encoding.of_opcode 0x64 rfl rfl rfl rfl
theorem Encoding.adcZeroPage (v : Byte) : Encoding.Statement (.adcZeroPage v) :=
  Encoding.of_opcode 0x65 rfl rfl rfl rfl
theorem Encoding.rorZeroPage (v : Byte) : Encoding.Statement (.rorZeroPage v) :=
  Encoding.of_opcode 0x66 rfl rfl rfl rfl
theorem Encoding.rraZeroPage (v : Byte) : Encoding.Statement (.rraZeroPage v) :=
  Encoding.of_opcode 0x67 rfl rfl rfl rfl
theorem Encoding.pla : Encoding.Statement .pla :=
  Encoding.of_opcode 0x68 rfl rfl rfl rfl
theorem Encoding.adcImmediate (v : Byte) : Encoding.Statement (.adcImmediate v) :=
  Encoding.of_opcode 0x69 rfl rfl rfl rfl
theorem Encoding.rorAccumulator : Encoding.Statement .rorAccumulator :=
  Encoding.of_opcode 0x6A rfl rfl rfl rfl
theorem Encoding.jmpIndirect (w : Word) : Encoding.Statement (.jmpIndirect w) :=
  Encoding.of_opcode 0x6C rfl rfl rfl rfl
theorem Encoding.adcAbsolute (w : Word) : Encoding.Statement (.adcAbsolute w) :=
  Encoding.of_opcode 0x6D rfl rfl rfl rfl
theorem Encoding.rorAbsolute (w : Word) : Encoding.Statement (.rorAbsolute w) :=
  Encoding.of_opcode 0x6E rfl rfl rfl rfl
theorem Encoding.rraAbsolute (w : Word) : Encoding.Statement (.rraAbsolute w) :=
  Encoding.of_opcode 0x6F rfl rfl rfl rfl
theorem Encoding.bvs (v : Byte) : Encoding.Statement (.bvs v) :=
  Encoding.of_opcode 0x70 rfl rfl rfl rfl
theorem Encoding.adcIndirectIndexed (v : Byte) : Encoding.Statement (.adcIndirectIndexed v) :=
  Encoding.of_opcode 0x71 rfl rfl rfl rfl
theorem Encoding.rraIndirectIndexed (v : Byte) : Encoding.Statement (.rraIndirectIndexed v) :=
  Encoding.of_opcode 0x73 rfl rfl rfl rfl
theorem Encoding.nopZeroPageX74 (v : Byte) : Encoding.Statement (.nopZeroPageX74 v) :=
  Encoding.of_opcode 0x74 rfl rfl rfl rfl
theorem Encoding.adcZeroPageX (v : Byte) : Encoding.Statement (.adcZeroPageX v) :=
  Encoding.of_opcode 0x75 rfl rfl rfl rfl
theorem Encoding.rorZeroPageX (v : Byte) : Encoding.Statement (.rorZeroPageX v) :=
  Encoding.of_opcode 0x76 rfl rfl rfl rfl
theorem Encoding.rraZeroPageX (v : Byte) : Encoding.Statement (.rraZeroPageX v) :=
  Encoding.of_opcode 0x77 rfl rfl rfl rfl
theorem Encoding.sei : Encoding.Statement .sei :=
  Encoding.of_opcode 0x78 rfl rfl rfl rfl
theorem Encoding.adcAbsoluteY (w : Word) : Encoding.Statement (.adcAbsoluteY w) :=
  Encoding.of_opcode 0x79 rfl rfl rfl rfl
theorem Encoding.nopImplied7A : Encoding.Statement .nopImplied7A :=
  Encoding.of_opcode 0x7A rfl rfl rfl rfl
theorem Encoding.rraAbsoluteY (w : Word) : Encoding.Statement (.rraAbsoluteY w) :=
  Encoding.of_opcode 0x7B rfl rfl rfl rfl
theorem Encoding.nopAbsoluteX7C (w : Word) : Encoding.Statement (.nopAbsoluteX7C w) :=
  Encoding.of_opcode 0x7C rfl rfl rfl rfl
theorem Encoding.adcAbsoluteX (w : Word) : Encoding.Statement (.adcAbsoluteX w) :=
  Encoding.of_opcode 0x7D rfl rfl rfl rfl
theorem Encoding.rorAbsoluteX (w : Word) : Encoding.Statement (.rorAbsoluteX w) :=
  Encoding.of_opcode 0x7E rfl rfl rfl rfl
theorem Encoding.rraAbsoluteX (w : Word) : Encoding.Statement (.rraAbsoluteX w) :=
  Encoding.of_opcode 0x7F rfl rfl rfl rfl
theorem Encoding.nopImmediate80 (v : Byte) : Encoding.Statement (.nopImmediate80 v) :=
  Encoding.of_opcode 0x80 rfl rfl rfl rfl
theorem Encoding.staIndexedIndirect (v : Byte) : Encoding.Statement (.staIndexedIndirect v) :=
  Encoding.of_opcode 0x81 rfl rfl rfl rfl
theorem Encoding.nopImmediate82 (v : Byte) : Encoding.Statement (.nopImmediate82 v) :=
  Encoding.of_opcode 0x82 rfl rfl rfl rfl
theorem Encoding.saxIndexedIndirect (v : Byte) : Encoding.Statement (.saxIndexedIndirect v) :=
  Encoding.of_opcode 0x83 rfl rfl rfl rfl
theorem Encoding.styZeroPage (v : Byte) : Encoding.Statement (.styZeroPage v) :=
  Encoding.of_opcode 0x84 rfl rfl rfl rfl
theorem Encoding.staZeroPage (v : Byte) : Encoding.Statement (.staZeroPage v) :=
  Encoding.of_opcode 0x85 rfl rfl rfl rfl
theorem Encoding.stxZeroPage (v : Byte) : Encoding.Statement (.stxZeroPage v) :=
  Encoding.of_opcode 0x86 rfl rfl rfl rfl
theorem Encoding.saxZeroPage (v : Byte) : Encoding.Statement (.saxZeroPage v) :=
  Encoding.of_opcode 0x87 rfl rfl rfl rfl
theorem Encoding.dey : Encoding.Statement .dey :=
  Encoding.of_opcode 0x88 rfl rfl rfl rfl
theorem Encoding.nopImmediate89 (v : Byte) : Encoding.Statement (.nopImmediate89 v) :=
  Encoding.of_opcode 0x89 rfl rfl rfl rfl
theorem Encoding.txa : Encoding.Statement .txa :=
  Encoding.of_opcode 0x8A rfl rfl rfl rfl
theorem Encoding.styAbsolute (w : Word) : Encoding.Statement (.styAbsolute w) :=
  Encoding.of_opcode 0x8C rfl rfl rfl rfl
theorem Encoding.staAbsolute (w : Word) : Encoding.Statement (.staAbsolute w) :=
  Encoding.of_opcode 0x8D rfl rfl rfl rfl
theorem Encoding.stxAbsolute (w : Word) : Encoding.Statement (.stxAbsolute w) :=
  Encoding.of_opcode 0x8E rfl rfl rfl rfl
theorem Encoding.saxAbsolute (w : Word) : Encoding.Statement (.saxAbsolute w) :=
  Encoding.of_opcode 0x8F rfl rfl rfl rfl
theorem Encoding.bcc (v : Byte) : Encoding.Statement (.bcc v) :=
  Encoding.of_opcode 0x90 rfl rfl rfl rfl
theorem Encoding.staIndirectIndexed (v : Byte) : Encoding.Statement (.staIndirectIndexed v) :=
  Encoding.of_opcode 0x91 rfl rfl rfl rfl
theorem Encoding.styZeroPageX (v : Byte) : Encoding.Statement (.styZeroPageX v) :=
  Encoding.of_opcode 0x94 rfl rfl rfl rfl
theorem Encoding.staZeroPageX (v : Byte) : Encoding.Statement (.staZeroPageX v) :=
  Encoding.of_opcode 0x95 rfl rfl rfl rfl
theorem Encoding.stxZeroPageY (v : Byte) : Encoding.Statement (.stxZeroPageY v) :=
  Encoding.of_opcode 0x96 rfl rfl rfl rfl
theorem Encoding.saxZeroPageY (v : Byte) : Encoding.Statement (.saxZeroPageY v) :=
  Encoding.of_opcode 0x97 rfl rfl rfl rfl
theorem Encoding.tya : Encoding.Statement .tya :=
  Encoding.of_opcode 0x98 rfl rfl rfl rfl
theorem Encoding.staAbsoluteY (w : Word) : Encoding.Statement (.staAbsoluteY w) :=
  Encoding.of_opcode 0x99 rfl rfl rfl rfl
theorem Encoding.txs : Encoding.Statement .txs :=
  Encoding.of_opcode 0x9A rfl rfl rfl rfl
theorem Encoding.staAbsoluteX (w : Word) : Encoding.Statement (.staAbsoluteX w) :=
  Encoding.of_opcode 0x9D rfl rfl rfl rfl
theorem Encoding.ldyImmediate (v : Byte) : Encoding.Statement (.ldyImmediate v) :=
  Encoding.of_opcode 0xA0 rfl rfl rfl rfl
theorem Encoding.ldaIndexedIndirect (v : Byte) : Encoding.Statement (.ldaIndexedIndirect v) :=
  Encoding.of_opcode 0xA1 rfl rfl rfl rfl
theorem Encoding.ldxImmediate (v : Byte) : Encoding.Statement (.ldxImmediate v) :=
  Encoding.of_opcode 0xA2 rfl rfl rfl rfl
theorem Encoding.laxIndexedIndirect (v : Byte) : Encoding.Statement (.laxIndexedIndirect v) :=
  Encoding.of_opcode 0xA3 rfl rfl rfl rfl
theorem Encoding.ldyZeroPage (v : Byte) : Encoding.Statement (.ldyZeroPage v) :=
  Encoding.of_opcode 0xA4 rfl rfl rfl rfl
theorem Encoding.ldaZeroPage (v : Byte) : Encoding.Statement (.ldaZeroPage v) :=
  Encoding.of_opcode 0xA5 rfl rfl rfl rfl
theorem Encoding.ldxZeroPage (v : Byte) : Encoding.Statement (.ldxZeroPage v) :=
  Encoding.of_opcode 0xA6 rfl rfl rfl rfl
theorem Encoding.laxZeroPage (v : Byte) : Encoding.Statement (.laxZeroPage v) :=
  Encoding.of_opcode 0xA7 rfl rfl rfl rfl
theorem Encoding.tay : Encoding.Statement .tay :=
  Encoding.of_opcode 0xA8 rfl rfl rfl rfl
theorem Encoding.ldaImmediate (v : Byte) : Encoding.Statement (.ldaImmediate v) :=
  Encoding.of_opcode 0xA9 rfl rfl rfl rfl
theorem Encoding.tax : Encoding.Statement .tax :=
  Encoding.of_opcode 0xAA rfl rfl rfl rfl
theorem Encoding.ldyAbsolute (w : Word) : Encoding.Statement (.ldyAbsolute w) :=
  Encoding.of_opcode 0xAC rfl rfl rfl rfl
theorem Encoding.ldaAbsolute (w : Word) : Encoding.Statement (.ldaAbsolute w) :=
  Encoding.of_opcode 0xAD rfl rfl rfl rfl
theorem Encoding.ldxAbsolute (w : Word) : Encoding.Statement (.ldxAbsolute w) :=
  Encoding.of_opcode 0xAE rfl rfl rfl rfl
theorem Encoding.laxAbsolute (w : Word) : Encoding.Statement (.laxAbsolute w) :=
  Encoding.of_opcode 0xAF rfl rfl rfl rfl
theorem Encoding.bcs (v : Byte) : Encoding.Statement (.bcs v) :=
  Encoding.of_opcode 0xB0 rfl rfl rfl rfl
theorem Encoding.ldaIndirectIndexed (v : Byte) : Encoding.Statement (.ldaIndirectIndexed v) :=
  Encoding.of_opcode 0xB1 rfl rfl rfl rfl
theorem Encoding.laxIndirectIndexed (v : Byte) : Encoding.Statement (.laxIndirectIndexed v) :=
  Encoding.of_opcode 0xB3 rfl rfl rfl rfl
theorem Encoding.ldyZeroPageX (v : Byte) : Encoding.Statement (.ldyZeroPageX v) :=
  Encoding.of_opcode 0xB4 rfl rfl rfl rfl
theorem Encoding.ldaZeroPageX (v : Byte) : Encoding.Statement (.ldaZeroPageX v) :=
  Encoding.of_opcode 0xB5 rfl rfl rfl rfl
theorem Encoding.ldxZeroPageY (v : Byte) : Encoding.Statement (.ldxZeroPageY v) :=
  Encoding.of_opcode 0xB6 rfl rfl rfl rfl
theorem Encoding.laxZeroPageY (v : Byte) : Encoding.Statement (.laxZeroPageY v) :=
  Encoding.of_opcode 0xB7 rfl rfl rfl rfl
theorem Encoding.clv : Encoding.Statement .clv :=
  Encoding.of_opcode 0xB8 rfl rfl rfl rfl
theorem Encoding.ldaAbsoluteY (w : Word) : Encoding.Statement (.ldaAbsoluteY w) :=
  Encoding.of_opcode 0xB9 rfl rfl rfl rfl
theorem Encoding.tsx : Encoding.Statement .tsx :=
  Encoding.of_opcode 0xBA rfl rfl rfl rfl
theorem Encoding.ldyAbsoluteX (w : Word) : Encoding.Statement (.ldyAbsoluteX w) :=
  Encoding.of_opcode 0xBC rfl rfl rfl rfl
theorem Encoding.ldaAbsoluteX (w : Word) : Encoding.Statement (.ldaAbsoluteX w) :=
  Encoding.of_opcode 0xBD rfl rfl rfl rfl
theorem Encoding.ldxAbsoluteY (w : Word) : Encoding.Statement (.ldxAbsoluteY w) :=
  Encoding.of_opcode 0xBE rfl rfl rfl rfl
theorem Encoding.laxAbsoluteY (w : Word) : Encoding.Statement (.laxAbsoluteY w) :=
  Encoding.of_opcode 0xBF rfl rfl rfl rfl
theorem Encoding.cpyImmediate (v : Byte) : Encoding.Statement (.cpyImmediate v) :=
  Encoding.of_opcode 0xC0 rfl rfl rfl rfl
theorem Encoding.cmpIndexedIndirect (v : Byte) : Encoding.Statement (.cmpIndexedIndirect v) :=
  Encoding.of_opcode 0xC1 rfl rfl rfl rfl
theorem Encoding.nopImmediateC2 (v : Byte) : Encoding.Statement (.nopImmediateC2 v) :=
  Encoding.of_opcode 0xC2 rfl rfl rfl rfl
theorem Encoding.dcpIndexedIndirect (v : Byte) : Encoding.Statement (.dcpIndexedIndirect v) :=
  Encoding.of_opcode 0xC3 rfl rfl rfl rfl
theorem Encoding.cpyZeroPage (v : Byte) : Encoding.Statement (.cpyZeroPage v) :=
  Encoding.of_opcode 0xC4 rfl rfl rfl rfl
theorem Encoding.cmpZeroPage (v : Byte) : Encoding.Statement (.cmpZeroPage v) :=
  Encoding.of_opcode 0xC5 rfl rfl rfl rfl
theorem Encoding.decZeroPage (v : Byte) : Encoding.Statement (.decZeroPage v) :=
  Encoding.of_opcode 0xC6 rfl rfl rfl rfl
theorem Encoding.dcpZeroPage (v : Byte) : Encoding.Statement (.dcpZeroPage v) :=
  Encoding.of_opcode 0xC7 rfl rfl rfl rfl
theorem Encoding.iny : Encoding.Statement .iny :=
  Encoding.of_opcode 0xC8 rfl rfl rfl rfl
theorem Encoding.cmpImmediate (v : Byte) : Encoding.Statement (.cmpImmediate v) :=
  Encoding.of_opcode 0xC9 rfl rfl rfl rfl
theorem Encoding.dex : Encoding.Statement .dex :=
  Encoding.of_opcode 0xCA rfl rfl rfl rfl
theorem Encoding.cpyAbsolute (w : Word) : Encoding.Statement (.cpyAbsolute w) :=
  Encoding.of_opcode 0xCC rfl rfl rfl rfl
theorem Encoding.cmpAbsolute (w : Word) : Encoding.Statement (.cmpAbsolute w) :=
  Encoding.of_opcode 0xCD rfl rfl rfl rfl
theorem Encoding.decAbsolute (w : Word) : Encoding.Statement (.decAbsolute w) :=
  Encoding.of_opcode 0xCE rfl rfl rfl rfl
theorem Encoding.dcpAbsolute (w : Word) : Encoding.Statement (.dcpAbsolute w) :=
  Encoding.of_opcode 0xCF rfl rfl rfl rfl
theorem Encoding.bne (v : Byte) : Encoding.Statement (.bne v) :=
  Encoding.of_opcode 0xD0 rfl rfl rfl rfl
theorem Encoding.cmpIndirectIndexed (v : Byte) : Encoding.Statement (.cmpIndirectIndexed v) :=
  Encoding.of_opcode 0xD1 rfl rfl rfl rfl
theorem Encoding.dcpIndirectIndexed (v : Byte) : Encoding.Statement (.dcpIndirectIndexed v) :=
  Encoding.of_opcode 0xD3 rfl rfl rfl rfl
theorem Encoding.nopZeroPageXD4 (v : Byte) : Encoding.Statement (.nopZeroPageXD4 v) :=
  Encoding.of_opcode 0xD4 rfl rfl rfl rfl
theorem Encoding.cmpZeroPageX (v : Byte) : Encoding.Statement (.cmpZeroPageX v) :=
  Encoding.of_opcode 0xD5 rfl rfl rfl rfl
theorem Encoding.decZeroPageX (v : Byte) : Encoding.Statement (.decZeroPageX v) :=
  Encoding.of_opcode 0xD6 rfl rfl rfl rfl
theorem Encoding.dcpZeroPageX (v : Byte) : Encoding.Statement (.dcpZeroPageX v) :=
  Encoding.of_opcode 0xD7 rfl rfl rfl rfl
theorem Encoding.cld : Encoding.Statement .cld :=
  Encoding.of_opcode 0xD8 rfl rfl rfl rfl
theorem Encoding.cmpAbsoluteY (w : Word) : Encoding.Statement (.cmpAbsoluteY w) :=
  Encoding.of_opcode 0xD9 rfl rfl rfl rfl
theorem Encoding.nopImpliedDA : Encoding.Statement .nopImpliedDA :=
  Encoding.of_opcode 0xDA rfl rfl rfl rfl
theorem Encoding.dcpAbsoluteY (w : Word) : Encoding.Statement (.dcpAbsoluteY w) :=
  Encoding.of_opcode 0xDB rfl rfl rfl rfl
theorem Encoding.nopAbsoluteXDC (w : Word) : Encoding.Statement (.nopAbsoluteXDC w) :=
  Encoding.of_opcode 0xDC rfl rfl rfl rfl
theorem Encoding.cmpAbsoluteX (w : Word) : Encoding.Statement (.cmpAbsoluteX w) :=
  Encoding.of_opcode 0xDD rfl rfl rfl rfl
theorem Encoding.decAbsoluteX (w : Word) : Encoding.Statement (.decAbsoluteX w) :=
  Encoding.of_opcode 0xDE rfl rfl rfl rfl
theorem Encoding.dcpAbsoluteX (w : Word) : Encoding.Statement (.dcpAbsoluteX w) :=
  Encoding.of_opcode 0xDF rfl rfl rfl rfl
theorem Encoding.cpxImmediate (v : Byte) : Encoding.Statement (.cpxImmediate v) :=
  Encoding.of_opcode 0xE0 rfl rfl rfl rfl
theorem Encoding.sbcIndexedIndirect (v : Byte) : Encoding.Statement (.sbcIndexedIndirect v) :=
  Encoding.of_opcode 0xE1 rfl rfl rfl rfl
theorem Encoding.nopImmediateE2 (v : Byte) : Encoding.Statement (.nopImmediateE2 v) :=
  Encoding.of_opcode 0xE2 rfl rfl rfl rfl
theorem Encoding.isbIndexedIndirect (v : Byte) : Encoding.Statement (.isbIndexedIndirect v) :=
  Encoding.of_opcode 0xE3 rfl rfl rfl rfl
theorem Encoding.cpxZeroPage (v : Byte) : Encoding.Statement (.cpxZeroPage v) :=
  Encoding.of_opcode 0xE4 rfl rfl rfl rfl
theorem Encoding.sbcZeroPage (v : Byte) : Encoding.Statement (.sbcZeroPage v) :=
  Encoding.of_opcode 0xE5 rfl rfl rfl rfl
theorem Encoding.incZeroPage (v : Byte) : Encoding.Statement (.incZeroPage v) :=
  Encoding.of_opcode 0xE6 rfl rfl rfl rfl
theorem Encoding.isbZeroPage (v : Byte) : Encoding.Statement (.isbZeroPage v) :=
  Encoding.of_opcode 0xE7 rfl rfl rfl rfl
theorem Encoding.inx : Encoding.Statement .inx :=
  Encoding.of_opcode 0xE8 rfl rfl rfl rfl
theorem Encoding.sbcImmediate (v : Byte) : Encoding.Statement (.sbcImmediate v) :=
  Encoding.of_opcode 0xE9 rfl rfl rfl rfl
theorem Encoding.nop : Encoding.Statement .nop :=
  Encoding.of_opcode 0xEA rfl rfl rfl rfl
theorem Encoding.sbcImmediateEB (v : Byte) : Encoding.Statement (.sbcImmediateEB v) :=
  Encoding.of_opcode 0xEB rfl rfl rfl rfl
theorem Encoding.cpxAbsolute (w : Word) : Encoding.Statement (.cpxAbsolute w) :=
  Encoding.of_opcode 0xEC rfl rfl rfl rfl
theorem Encoding.sbcAbsolute (w : Word) : Encoding.Statement (.sbcAbsolute w) :=
  Encoding.of_opcode 0xED rfl rfl rfl rfl
theorem Encoding.incAbsolute (w : Word) : Encoding.Statement (.incAbsolute w) :=
  Encoding.of_opcode 0xEE rfl rfl rfl rfl
theorem Encoding.isbAbsolute (w : Word) : Encoding.Statement (.isbAbsolute w) :=
  Encoding.of_opcode 0xEF rfl rfl rfl rfl
theorem Encoding.beq (v : Byte) : Encoding.Statement (.beq v) :=
  Encoding.of_opcode 0xF0 rfl rfl rfl rfl
theorem Encoding.sbcIndirectIndexed (v : Byte) : Encoding.Statement (.sbcIndirectIndexed v) :=
  Encoding.of_opcode 0xF1 rfl rfl rfl rfl
theorem Encoding.isbIndirectIndexed (v : Byte) : Encoding.Statement (.isbIndirectIndexed v) :=
  Encoding.of_opcode 0xF3 rfl rfl rfl rfl
theorem Encoding.nopZeroPageXF4 (v : Byte) : Encoding.Statement (.nopZeroPageXF4 v) :=
  Encoding.of_opcode 0xF4 rfl rfl rfl rfl
theorem Encoding.sbcZeroPageX (v : Byte) : Encoding.Statement (.sbcZeroPageX v) :=
  Encoding.of_opcode 0xF5 rfl rfl rfl rfl
theorem Encoding.incZeroPageX (v : Byte) : Encoding.Statement (.incZeroPageX v) :=
  Encoding.of_opcode 0xF6 rfl rfl rfl rfl
theorem Encoding.isbZeroPageX (v : Byte) : Encoding.Statement (.isbZeroPageX v) :=
  Encoding.of_opcode 0xF7 rfl rfl rfl rfl
theorem Encoding.sed : Encoding.Statement .sed :=
  Encoding.of_opcode 0xF8 rfl rfl rfl rfl
theorem Encoding.sbcAbsoluteY (w : Word) : Encoding.Statement (.sbcAbsoluteY w) :=
  Encoding.of_opcode 0xF9 rfl rfl rfl rfl
theorem Encoding.nopImpliedFA : Encoding.Statement .nopImpliedFA :=
  Encoding.of_opcode 0xFA rfl rfl rfl rfl
theorem Encoding.isbAbsoluteY (w : Word) : Encoding.Statement (.isbAbsoluteY w) :=
  Encoding.of_opcode 0xFB rfl rfl rfl rfl
theorem Encoding.nopAbsoluteXFC (w : Word) : Encoding.Statement (.nopAbsoluteXFC w) :=
  Encoding.of_opcode 0xFC rfl rfl rfl rfl
theorem Encoding.sbcAbsoluteX (w : Word) : Encoding.Statement (.sbcAbsoluteX w) :=
  Encoding.of_opcode 0xFD rfl rfl rfl rfl
theorem Encoding.incAbsoluteX (w : Word) : Encoding.Statement (.incAbsoluteX w) :=
  Encoding.of_opcode 0xFE rfl rfl rfl rfl
theorem Encoding.isbAbsoluteX (w : Word) : Encoding.Statement (.isbAbsoluteX w) :=
  Encoding.of_opcode 0xFF rfl rfl rfl rfl

theorem Encoding.unsupported (op : Byte) : Encoding.Statement (.unsupported op) := by
  have h : ∀ op ∈ unsupportedOpcodes, (instrOf op 0 0).status = .unsupported ∧ (instrOf op 0 0).length = 1 := by decide
  exact ⟨rfl, fun hw => h op (by simpa [Instr.wellFormed] using hw)⟩

end Sys2Proof.Laws
end

