-- ==== Sys2Proof/Laws/Steps.lean ====
section
/-! SUPPORT. What an APU step, the APU steps owed, an event, a boundary and a fetch can change; and which kinds of step there are. -/

namespace Sys2Proof.Machine

/-- What APU steps keep: all of the machine but the audio unit, the record of outputs, the environment's answers, the stall
cycles and the steps owed. -/
structure ApuKeeps (s t : State) : Prop extends Keeps s t where
  a : t.a = s.a
  x : t.x = s.x
  y : t.y = s.y
  sp : t.sp = s.sp
  pc : t.pc = s.pc
  flags : t.flags = s.flags
  cycles : t.cycles = s.cycles
  nmiPending : t.nmiPending = s.nmiPending
  halted : t.halted = s.halted
  extraCycles : t.extraCycles = s.extraCycles
  sameRam : t.ram = s.ram
  sameCart : t.cart = s.cart

theorem ApuKeeps.refl (s : State) : ApuKeeps s s := ⟨.refl s, rfl, rfl, rfl, rfl, rfl, rfl, rfl, rfl, rfl, rfl, rfl, rfl⟩

theorem ApuKeeps.trans {s t u : State} (h : ApuKeeps s t) (k : ApuKeeps t u) : ApuKeeps s u :=
  ⟨h.toKeeps.trans k.toKeeps, k.a.trans h.a, k.x.trans h.x, k.y.trans h.y, k.sp.trans h.sp, k.pc.trans h.pc,
   k.flags.trans h.flags, k.cycles.trans h.cycles, k.nmiPending.trans h.nmiPending, k.halted.trans h.halted,
   k.extraCycles.trans h.extraCycles, k.sameRam.trans h.sameRam, k.sameCart.trans h.sameCart⟩

theorem busRead_apuKeeps (a : Word) (s : State) : ApuKeeps s (busRead a s).2 := by
  have h := busRead_keeps a s
  have r := busRead_readsOnly a s
  unfold ReadsOnly at r
  generalize (busRead a s).2 = t at *
  refine ⟨h.toKeeps, ?_, ?_, ?_, ?_, ?_, ?_, ?_, ?_, ?_, ?_, ?_, ?_⟩ <;> rw [r] <;> rfl

/-- A change of the audio unit, the outputs, the stall and the steps owed alone. -/
theorem ApuKeeps.of_apu {s t : State}
    (h : t = { s with apu := t.apu, outputs := t.outputs, stall := t.stall, apuOwed := t.apuOwed })
    (ha : ApuInv s.apu → ApuInv t.apu) : ApuKeeps s t := by
  rw [h]
  exact ⟨⟨id, id, ha, .refl _, rfl, rfl⟩, rfl, rfl, rfl, rfl, rfl, rfl, rfl, rfl, rfl, rfl, rfl, rfl⟩

theorem busRead_dmc (a : Word) (s : State) : (busRead a s).2.apu.dmc = s.apu.dmc := by
  unfold busRead readPort nextPortByte readOpenBus
  repeat' split
  all_goals rfl

theorem Dmc.fetched_inv {d : Dmc} (v : Byte) (h1 : d.sampleLen.toNat ≤ 4081) (h2 : d.bytesLeft.toNat ≤ 4081)
    (h0 : d.bytesLeft ≠ 0) :
    (d.fetched v).bitsLeft.toNat ≤ 8 ∧ (d.fetched v).sampleLen.toNat ≤ 4081 ∧ (d.fetched v).bytesLeft.toNat ≤ 4081 := by
  unfold Dmc.fetched
  dsimp only
  split
  · exact ⟨Nat.le_refl _, h1, h1⟩
  · refine ⟨Nat.le_refl _, h1, ?_⟩
    show (d.bytesLeft - 1).toNat ≤ 4081
    have : d.bytesLeft.toNat ≠ 0 := fun h => h0 (BitVec.eq_of_toNat_eq h)
    have := d.bytesLeft.isLt
    rw [BitVec.toNat_sub]
    simp
    omega

/-- What an APU step does without counting itself. -/
structure ApuSub (s t : State) : Prop extends ApuKeeps s t where
  apuCycle : t.apu.apuCycle = s.apu.apuCycle
  owed : t.apuOwed = s.apuOwed

theorem ApuSub.refl (s : State) : ApuSub s s := ⟨.refl s, rfl, rfl⟩

theorem ApuSub.trans {s t u : State} (h : ApuSub s t) (k : ApuSub t u) : ApuSub s u :=
  ⟨h.toApuKeeps.trans k.toApuKeeps, k.apuCycle.trans h.apuCycle, k.owed.trans h.owed⟩

/-- The delta-modulation reader (R349). -/
theorem dmcReader_sub (s : State) : ApuSub s (dmcReader s) := by
  unfold dmcReader
  split
  · next h =>
    have hd := busRead_apuKeeps s.apu.dmc.curAddr s
    have hc := busRead_keeps s.apu.dmc.curAddr s
    have hdmc := busRead_dmc s.apu.dmc.curAddr s
    dsimp only
    generalize (busRead s.apu.dmc.curAddr s) = r at *
    refine ⟨hd.trans (ApuKeeps.of_apu rfl ?_), hc.apuCycle, hc.owed⟩
    intro k
    have k4 := k.sampleLen
    have k5 := k.bytesLeft
    rw [hdmc] at k4 k5
    obtain ⟨a, b, c⟩ := Dmc.fetched_inv (d := s.apu.dmc) r.1 k4 k5 h.1
    exact ⟨k.1, k.2, a, b, c⟩
  · exact .refl s

/-- The noise register never becomes 0 (R333, R353). -/
theorem Noise.shifted_ne {n : Noise} (h : n.lfsr ≠ 0) : n.shifted ≠ 0 := by
  unfold Noise.shifted
  intro h0
  dsimp only at h0
  apply h
  generalize hfb : (n.lfsr.getLsbD 0 ^^ (if n.mode then n.lfsr.getLsbD 6 else n.lfsr.getLsbD 1)) = fb at h0
  have high : ∀ i, 1 ≤ i → i < 15 → n.lfsr.getLsbD i = false := by
    intro i h1 h2
    have e := congrArg (fun x => BitVec.getLsbD x (i - 1)) h0
    simp only [BitVec.getLsbD_or, BitVec.getLsbD_ushiftRight] at e
    rw [show BitVec.getLsbD (0 : BitVec 15) (i - 1) = false by simp, Bool.or_eq_false_iff] at e
    have h3 := e.1
    rwa [show 1 + (i - 1) = i by omega] at h3
  have all : ∀ i, i < 15 → n.lfsr.getLsbD i = false := by
    intro i hi
    by_cases h1 : 1 ≤ i
    · exact high i h1 hi
    · obtain rfl : i = 0 := by omega
      have h14 := congrArg (fun x => BitVec.getLsbD x 14) h0
      have hf : fb = false := by
        cases fb
        · rfl
        · exfalso
          simp at h14
      rw [hf, high 6 (by omega) (by omega), high 1 (by omega) (by omega)] at hfb
      simpa using hfb
  apply BitVec.eq_of_getLsbD_eq
  intro i hi
  rw [all i hi]
  simp

theorem Noise.clockTimer_ne {n : Noise} (h : n.lfsr ≠ 0) : n.clockTimer.lfsr ≠ 0 := by
  unfold Noise.clockTimer
  split
  · exact Noise.shifted_ne h
  · exact h

theorem Dmc.clockTimer_inv {d : Dmc} (h1 : d.bitsLeft.toNat ≤ 8) (h2 : d.sampleLen.toNat ≤ 4081)
    (h3 : d.bytesLeft.toNat ≤ 4081) :
    d.clockTimer.bitsLeft.toNat ≤ 8 ∧ d.clockTimer.sampleLen.toNat ≤ 4081 ∧ d.clockTimer.bytesLeft.toNat ≤ 4081 := by
  unfold Dmc.clockTimer
  split
  · unfold Dmc.fire
    dsimp only
    split
    · exact ⟨h1, h2, h3⟩
    · next h0 =>
      refine ⟨?_, h2, h3⟩
      show (d.bitsLeft - 1).toNat ≤ 8
      have : d.bitsLeft.toNat ≠ 0 := fun h => h0 (BitVec.eq_of_toNat_eq h)
      have := d.bitsLeft.isLt
      rw [BitVec.toNat_sub]
      simp
      omega
  · exact ⟨h1, h2, h3⟩

theorem clockSlowTimers_sub (s : State) : ApuSub s (clockSlowTimers s) := by
  unfold clockSlowTimers
  dsimp only
  have a0 : ApuSub s { s with
      apu :=
        { s.apu with
          pulse1 := s.apu.pulse1.clockTimer, pulse2 := s.apu.pulse2.clockTimer, noise := s.apu.noise.clockTimer } } :=
    ⟨ApuKeeps.of_apu rfl (fun h => ⟨h.1, Noise.clockTimer_ne h.2, h.3, h.4, h.5⟩), rfl, rfl⟩
  have a1 := a0.trans (dmcReader_sub _)
  generalize dmcReader _ = t at *
  refine a1.trans ⟨ApuKeeps.of_apu rfl ?_, rfl, rfl⟩
  intro h
  obtain ⟨x, y, z⟩ := Dmc.clockTimer_inv h.3 h.4 h.5
  exact ⟨h.1, h.2, x, y, z⟩

theorem Apu.frameClock_inv (u : Apu) : (ApuInv u → ApuInv u.frameClock) ∧ u.frameClock.apuCycle = u.apuCycle := by
  have e : u.frameClock.frameMode = u.frameMode ∧ u.frameClock.noise.lfsr = u.noise.lfsr ∧
      u.frameClock.dmc = u.dmc ∧ u.frameClock.apuCycle = u.apuCycle ∧
      u.frameClock.frameStep = BitVec.ofNat 3 ((u.frameStep.toNat + 1) % frameSteps u.frameMode) := by
    unfold Apu.frameClock
    dsimp only
    repeat' split
    all_goals exact ⟨rfl, rfl, rfl, rfl, rfl⟩
  obtain ⟨e1, e2, e3, e4, e5⟩ := e
  refine ⟨fun h => ⟨?_, e2 ▸ h.2, e3 ▸ h.3, e3 ▸ h.4, e3 ▸ h.5⟩, e4⟩
  rw [e1, e5, BitVec.toNat_ofNat]
  have ⟨p1, p2⟩ := frameSteps_range u.frameMode
  have := Nat.mod_lt (u.frameStep.toNat + 1) p1
  rw [Nat.mod_eq_of_lt (by omega)]
  exact this

theorem frameCheckpoint_sub (c : Nat) (s : State) : ApuSub s (frameCheckpoint c s) := by
  unfold frameCheckpoint
  split
  · obtain ⟨a, b⟩ := Apu.frameClock_inv s.apu
    exact ⟨ApuKeeps.of_apu rfl a, b, rfl⟩
  · exact .refl s

theorem sampleCheckpoint_sub (c : Nat) (s : State) : ApuSub s (sampleCheckpoint c s) := by
  unfold sampleCheckpoint
  split
  · exact ⟨ApuKeeps.of_apu rfl (fun h => ⟨h.1, h.2, h.3, h.4, h.5⟩), rfl, rfl⟩
  · exact .refl s

/-- One APU step counts one and pays one (R352, R386). -/
theorem apuStep_keeps (s : State) :
    ApuKeeps s (apuStep s) ∧ (apuStep s).apu.apuCycle = s.apu.apuCycle + 1 ∧ (apuStep s).apuOwed = s.apuOwed - 1 := by
  unfold apuStep
  dsimp only
  generalize h0 : ({ s with apuOwed := s.apuOwed - 1, apu := { s.apu with apuCycle := s.apu.apuCycle + 1 } } : State) = u
  have h1 : ApuKeeps s u := by
    rw [← h0]
    exact ApuKeeps.of_apu rfl (fun h => ⟨h.1, h.2, h.3, h.4, h.5⟩)
  have h2 : ApuSub u (if (s.apu.apuCycle + 1) % 2 = 0 then clockSlowTimers u else u) := by
    split
    · exact clockSlowTimers_sub u
    · exact .refl u
  generalize (if (s.apu.apuCycle + 1) % 2 = 0 then clockSlowTimers u else u) = t at *
  have h3 : ApuSub t { t with apu := { t.apu with tri := t.apu.tri.clockTimer } } :=
    ⟨ApuKeeps.of_apu rfl (fun h => ⟨h.1, h.2, h.3, h.4, h.5⟩), rfl, rfl⟩
  have h4 := ((h2.trans h3).trans (frameCheckpoint_sub s.apu.apuCycle _)).trans (sampleCheckpoint_sub s.apu.apuCycle _)
  refine ⟨h1.trans h4.toApuKeeps, ?_, ?_⟩
  · rw [h4.apuCycle, ← h0]
  · rw [h4.owed, ← h0]

theorem apuSteps_keeps (n : Nat) (s : State) :
    ApuKeeps s (apuSteps n s) ∧ (apuSteps n s).apu.apuCycle = s.apu.apuCycle + n ∧
    (apuSteps n s).apuOwed = s.apuOwed - n := by
  induction n generalizing s with
  | zero => exact ⟨.refl s, rfl, rfl⟩
  | succ n ih =>
    obtain ⟨a, b, c⟩ := apuStep_keeps s
    obtain ⟨d, e, f⟩ := ih (apuStep s)
    refine ⟨a.trans d, ?_, ?_⟩
    · show (apuSteps n (apuStep s)).apu.apuCycle = _
      omega
    · show (apuSteps n (apuStep s)).apuOwed = _
      omega

/-- Draining counts the steps owed and leaves none (R386). -/
theorem drainApu_keeps (s : State) :
    ApuKeeps s (drainApu s) ∧ (drainApu s).apu.apuCycle = s.apu.apuCycle + s.apuOwed ∧ (drainApu s).apuOwed = 0 := by
  obtain ⟨a, b, c⟩ := apuSteps_keeps s.apuOwed s
  exact ⟨a, b, by unfold drainApu; omega⟩

/-- Only the audio unit, the stall, the steps owed and what a bus read may change differ, and no stall is lost (R360). -/
def ApuFrame (s t : State) : Prop :=
  t = { s with
    apu := t.apu, stall := t.stall, apuOwed := t.apuOwed
    portInputs := t.portInputs, outputs := t.outputs, draws := t.draws } ∧ s.stall ≤ t.stall

theorem ApuFrame.refl (s : State) : ApuFrame s s := ⟨rfl, Nat.le_refl _⟩

theorem ApuFrame.trans {s t u : State} (h : ApuFrame s t) (k : ApuFrame t u) : ApuFrame s u := by
  refine ⟨?_, h.2.trans k.2⟩
  have h1 := h.1
  have k1 := k.1
  rw [h1] at k1
  exact k1

/-- Every byte of memory reads as before. -/
theorem ApuFrame.sameMemory {s t : State} (h : ApuFrame s t) : SameMemory s t :=
  fun a => peek_congr (by rw [h.1]) (by rw [h.1]) a

theorem ReadsOnly.apuFrame {s t : State} (h : ReadsOnly s t) : ApuFrame s t := by
  unfold ReadsOnly at h
  have hs : t.stall = s.stall := by rw [h]; rfl
  have ho : t.apuOwed = s.apuOwed := by rw [h]; rfl
  refine ⟨?_, Nat.le_of_eq hs.symm⟩
  rw [hs, ho]
  exact h

/-- The delta-modulation reader reads one byte through the bus and charges 4 cycles (R349). -/
theorem dmcReader_frame (s : State) : ApuFrame s (dmcReader s) := by
  unfold dmcReader
  split
  · have h := (busRead_readsOnly s.apu.dmc.curAddr s).apuFrame
    dsimp only
    generalize busRead s.apu.dmc.curAddr s = r at *
    exact h.trans ⟨rfl, Nat.le_add_right _ _⟩
  · exact .refl s

theorem clockSlowTimers_frame (s : State) : ApuFrame s (clockSlowTimers s) := by
  have h := dmcReader_frame
    { s with
      apu :=
        { s.apu with
          pulse1 := s.apu.pulse1.clockTimer, pulse2 := s.apu.pulse2.clockTimer, noise := s.apu.noise.clockTimer } }
  unfold clockSlowTimers
  dsimp only
  generalize dmcReader _ = t at *
  exact (ApuFrame.trans (s := s) ⟨rfl, Nat.le_refl _⟩ h).trans ⟨rfl, Nat.le_refl _⟩

/-- One APU step. -/
theorem apuStep_frame (s : State) : ApuFrame s (apuStep s) := by
  have hf (c : Nat) (s : State) : ApuFrame s (frameCheckpoint c s) := by
    unfold frameCheckpoint
    split
    · exact ⟨rfl, Nat.le_refl _⟩
    · exact .refl s
  have hs (c : Nat) (s : State) : ApuFrame s (sampleCheckpoint c s) := by
    unfold sampleCheckpoint
    split
    · exact ⟨rfl, Nat.le_refl _⟩
    · exact .refl s
  unfold apuStep
  dsimp only
  refine ApuFrame.trans ?_ (hs _ _)
  refine ApuFrame.trans ?_ (hf _ _)
  split
  · have h := clockSlowTimers_frame 
      { s with apuOwed := s.apuOwed - 1, apu := { s.apu with apuCycle := s.apu.apuCycle + 1 } }
    generalize clockSlowTimers _ = t at *
    exact (ApuFrame.trans (s := s) ⟨rfl, Nat.le_refl _⟩ h).trans ⟨rfl, Nat.le_refl _⟩
  · exact ⟨rfl, Nat.le_refl _⟩

theorem Pulse.clockTimer_length (p : Pulse) : p.clockTimer.length = p.length := by
  unfold Pulse.clockTimer
  split <;> rfl

theorem Noise.clockTimer_length (n : Noise) : n.clockTimer.length = n.length := by
  unfold Noise.clockTimer
  split <;> rfl

/-- `s` with the steps owed, the cycle count and three channels replaced, as the timers clocked before the reader replace them. -/
def State.withChannels (s : State) (owed cycle : Nat) (p1 p2 : Pulse) (n : Noise) : State :=
  { s with apuOwed := owed, apu := { s.apu with apuCycle := cycle, pulse1 := p1, pulse2 := p2, noise := n } }

/-- A bus read sees of the three channels only their length counters (R345). -/
theorem busRead_withChannels (a : Word) (s : State) (owed cycle : Nat) {p1 p2 : Pulse} {n : Noise}
    (h1 : p1.length = s.apu.pulse1.length) (h2 : p2.length = s.apu.pulse2.length)
    (h3 : n.length = s.apu.noise.length) :
    busRead a (s.withChannels owed cycle p1 p2 n) =
      ((busRead a s).1, (busRead a s).2.withChannels owed cycle p1 p2 n) := by
  have hs : (s.withChannels owed cycle p1 p2 n).apu.statusByte = s.apu.statusByte := by
    unfold State.withChannels Apu.statusByte
    simp only [h1, h2, h3]
  unfold busRead readPort nextPortByte readOpenBus
  split
  · rfl
  · unfold State.withChannels; dsimp only; split <;> rfl
  · rw [hs]; rfl
  · unfold State.withChannels; dsimp only; split <;> rfl
  · unfold State.withChannels; dsimp only; split <;> rfl
  · rfl
  · rfl
  · rfl
  · unfold State.withChannels; dsimp only; split <;> rfl

/-- So the reader does the same before the timers of the three channels as after them (R349, R353). -/
theorem dmcReader_withChannels (s : State) (owed cycle : Nat) {p1 p2 : Pulse} {n : Noise}
    (h1 : p1.length = s.apu.pulse1.length) (h2 : p2.length = s.apu.pulse2.length)
    (h3 : n.length = s.apu.noise.length) :
    dmcReader (s.withChannels owed cycle p1 p2 n) = (dmcReader s).withChannels owed cycle p1 p2 n := by
  have hb := busRead_withChannels s.apu.dmc.curAddr s owed cycle h1 h2 h3
  have hd : (s.withChannels owed cycle p1 p2 n).apu.dmc = s.apu.dmc := rfl
  unfold dmcReader
  rw [hd, hb]
  split <;> rfl

/-- The reader leaves the other channels alone (R349). -/
theorem dmcReader_channels (s : State) :
    (dmcReader s).apu.pulse1 = s.apu.pulse1 ∧ (dmcReader s).apu.pulse2 = s.apu.pulse2 ∧
    (dmcReader s).apu.noise = s.apu.noise ∧ (dmcReader s).apu.tri = s.apu.tri := by
  unfold dmcReader busRead readPort nextPortByte readOpenBus
  dsimp only
  repeat' split
  all_goals exact ⟨rfl, rfl, rfl, rfl⟩

/-- What the events of a boundary keep. -/
structure BoundaryKeeps (s t : State) : Prop where
  ram : RamInv s.ram → RamInv t.ram
  cart : CartInv s.cart → CartInv t.cart
  apu : ApuInv s.apu → ApuInv t.apu
  board : SameBoard s.cart t.cart
  params : t.params = s.params
  owed : t.apuOwed = s.apuOwed
  extraCycles : t.extraCycles = s.extraCycles
  apuCycle : t.apu.apuCycle = s.apu.apuCycle

theorem BoundaryKeeps.refl (s : State) : BoundaryKeeps s s := ⟨id, id, id, .refl _, rfl, rfl, rfl, rfl⟩

theorem BoundaryKeeps.trans {s t u : State} (h : BoundaryKeeps s t) (k : BoundaryKeeps t u) : BoundaryKeeps s u :=
  ⟨k.ram ∘ h.ram, k.cart ∘ h.cart, k.apu ∘ h.apu, h.board.trans k.board, k.params.trans h.params, k.owed.trans h.owed,
   k.extraCycles.trans h.extraCycles, k.apuCycle.trans h.apuCycle⟩

theorem resetProcedure_keeps (s : State) : BoundaryKeeps s (resetProcedure s) := by
  have h := read16_keeps resetVector { s with flags := unpack resetP, sp := resetSp }
  have e : (read16 resetVector { s with flags := unpack resetP, sp := resetSp }).2.extraCycles = s.extraCycles := by
    have r := read16_readsOnly resetVector { s with flags := unpack resetP, sp := resetSp }
    unfold ReadsOnly at r
    rw [r]
    rfl
  unfold resetProcedure
  generalize read16 resetVector { s with flags := unpack resetP, sp := resetSp } = r at *
  exact ⟨h.ram, h.cart, h.apu, h.board, h.params, h.owed, e, h.apuCycle⟩

/-- An event; only Reset touches the cycle count (R380, R386). -/
theorem deliverEvent_keeps (e : Event) (s : State) :
    BoundaryKeeps s (deliverEvent s e) ∧ (e ≠ .reset → (deliverEvent s e).cycles = s.cycles) := by
  unfold deliverEvent
  split
  · exact ⟨.refl s, fun _ => rfl⟩
  · cases e
    case reset => exact ⟨resetProcedure_keeps s, fun h => absurd rfl h⟩
    case chrWrite a v _ =>
      obtain ⟨x, y⟩ := Cart.chrWrite_keeps s.cart a v
      exact ⟨⟨id, y, id, x, rfl, rfl, rfl, rfl⟩, fun _ => rfl⟩
    all_goals exact ⟨⟨id, id, id, .refl _, rfl, rfl, rfl, rfl⟩, fun _ => rfl⟩

theorem deliverEvents_keeps (es : List Event) (s : State) :
    BoundaryKeeps s (es.foldl deliverEvent s) ∧
    (Event.reset ∉ es → (es.foldl deliverEvent s).cycles = s.cycles) := by
  induction es generalizing s with
  | nil => exact ⟨.refl s, fun _ => rfl⟩
  | cons e es ih =>
    obtain ⟨a, b⟩ := deliverEvent_keeps e s
    obtain ⟨c, d⟩ := ih (deliverEvent s e)
    refine ⟨a.trans c, fun h => ?_⟩
    simp only [List.mem_cons, not_or] at h
    exact (d h.2).trans (b (fun k => h.1 k.symm))

/-- A boundary (R386). -/
theorem deliverBoundary_keeps (s : State) :
    BoundaryKeeps s (deliverBoundary s) ∧
    ((∀ events ∈ s.boundaries.head?, Event.reset ∉ events) → (deliverBoundary s).cycles = s.cycles) := by
  unfold deliverBoundary
  split
  · exact ⟨.refl s, fun _ => rfl⟩
  · next es later h =>
    obtain ⟨a, b⟩ := deliverEvents_keeps es { s with boundaries := later }
    refine ⟨BoundaryKeeps.trans (t := { s with boundaries := later }) ⟨id, id, id, .refl _, rfl, rfl, rfl, rfl⟩ a, ?_⟩
    exact fun k => b (k es (by rw [h]; rfl))

theorem fetchBytes_keeps (n : Nat) (a : Word) (s : State) :
    CpuKeeps s (fetchBytes a n s).2 ∧ (fetchBytes a n s).2.extraCycles = s.extraCycles := by
  induction n generalizing a s with
  | zero => exact ⟨.refl s, rfl⟩
  | succ n ih =>
    obtain ⟨x, y⟩ := ih (a + 1) (busRead a s).2
    exact ⟨(busRead_keeps _ s).trans x, y.trans (busRead_extraCycles _ _)⟩

/-- A fetch (R112). -/
theorem fetchInstr_keeps (s : State) :
    CpuKeeps s (fetchInstr s).2 ∧ (fetchInstr s).2.extraCycles = s.extraCycles := by
  unfold fetchInstr
  dsimp only
  obtain ⟨x, y⟩ := fetchBytes_keeps (fetchLength (busRead s.pc s).2 (busRead s.pc s).1 - 1) (s.pc + 1) (busRead s.pc s).2
  exact ⟨(busRead_keeps _ s).trans x, y.trans (busRead_extraCycles _ _)⟩

/-- A step that gives a next state drains the steps owed, or takes the CPU step that the boundary leaves enabled. -/
theorem step_next {s t : State} (h : step s = .next t) :
    (s.halted = none ∧ s.apuOwed ≠ 0 ∧ t = drainApu s) ∨
    ((deliverBoundary s).halted = none ∧ cpuStep (deliverBoundary s) = .next t) := by
  unfold step at h
  split at h
  · next hc =>
    cases h
    left
    simp at hc
    exact ⟨hc.1, hc.2, rfl⟩
  · right
    refine ⟨?_, h⟩
    unfold cpuStep at h
    split at h
    · cases h
    · next hn => exact hn

end Sys2Proof.Machine
end

