-- ==== Sys2Proof/Tests/Slice0.lean ====
section
/-! SUPPORT. Tests of this model: the check of well-formedness; every opcode's decoding, its bytes written out from the spec's
opcode map; single steps taken from the spec's test vectors (95_test_vectors.md part 2); and, for every obligation with hypotheses,
a concrete state and operands that meet them. -/

namespace Sys2Proof.Tests

open Sys2Proof Sys2Proof.Machine

/-! ## Well-formedness -/

theorem test_wellFormed_refuses_a_supported_opcode : (Instr.unsupported 0xA9).wellFormed = false := by decide
theorem test_wellFormed_refuses_an_undocumented_opcode : (Instr.unsupported 0xA3).wellFormed = false := by decide
theorem test_wellFormed_accepts_an_unsupported_opcode : (Instr.unsupported 0x02).wellFormed = true := by decide

/-! ## Decoding -/

/-- The first instruction of each byte string; none where one does not decode. -/
def firstInstrs (words : List (List Byte)) : List Instr :=
  words.filterMap fun bytes => match decode bytes with
    | .ok (i, []) => some i
    | _ => none

/-- LDA #$34: 101 010 01 (R129). -/
theorem test_decode_lda_bits : firstInstrs [[0b10101001, 0x34]] = [.ldaImmediate 0x34] := by decide
/-- STX $34,Y: 100 101 10 (R129). -/
theorem test_decode_stx_bits : firstInstrs [[0b10010110, 0x34]] = [.stxZeroPageY 0x34] := by decide
/-- TXS: 100 110 10 (R129). -/
theorem test_decode_txs_bits : firstInstrs [[0b10011010]] = [.txs] := by decide
/-- ADC ($34),Y: 011 100 01 (R129). -/
theorem test_decode_adc_bits : firstInstrs [[0b01110001, 0x34]] = [.adcIndirectIndexed 0x34] := by decide
/-- ROR $1234,X: 011 111 10, low byte first (R129, R50). -/
theorem test_decode_ror_bits : firstInstrs [[0b01111110, 0x34, 0x12]] = [.rorAbsoluteX 0x1234] := by decide
/-- JMP ($1234): 011 011 00 (R129). -/
theorem test_decode_jmp_bits : firstInstrs [[0b01101100, 0x34, 0x12]] = [.jmpIndirect 0x1234] := by decide
/-- RTI: 010 000 00 (R129). -/
theorem test_decode_rti_bits : firstInstrs [[0b01000000]] = [.rti] := by decide
/-- ISB ($34,X): 111 000 11 (R130). -/
theorem test_decode_isb_bits : firstInstrs [[0b11100011, 0x34]] = [.isbIndexedIndirect 0x34] := by decide

theorem test_decode_rejects_nothing : decode [] = .error .empty := by decide
theorem test_decode_rejects_a_short_operand : decode [0xAD, 0x34] = .error (.truncated 0xAD) := by decide

/-- Row 0x of the opcode map (R128; R129 to R131). -/
theorem test_decode_row_0 :
    firstInstrs
      [[0x00], [0x01, 0x34], [0x02], [0x03, 0x34], [0x04, 0x34], [0x05, 0x34], [0x06, 0x34], [0x07, 0x34], [0x08],
       [0x09, 0x34], [0x0A], [0x0B], [0x0C, 0x34, 0x12], [0x0D, 0x34, 0x12], [0x0E, 0x34, 0x12], [0x0F, 0x34, 0x12]] =
      [.brk, .oraIndexedIndirect 0x34, .unsupported 0x02, .sloIndexedIndirect 0x34, .nopZeroPage04 0x34, .oraZeroPage
       0x34, .aslZeroPage 0x34, .sloZeroPage 0x34, .php, .oraImmediate 0x34, .aslAccumulator, .unsupported 0x0B,
       .nopAbsolute0C 0x1234, .oraAbsolute 0x1234, .aslAbsolute 0x1234, .sloAbsolute 0x1234] := by decide

/-- Row 1x of the opcode map (R128; R129 to R131). -/
theorem test_decode_row_1 :
    firstInstrs
      [[0x10, 0x34], [0x11, 0x34], [0x12], [0x13, 0x34], [0x14, 0x34], [0x15, 0x34], [0x16, 0x34], [0x17, 0x34],
       [0x18], [0x19, 0x34, 0x12], [0x1A], [0x1B, 0x34, 0x12], [0x1C, 0x34, 0x12], [0x1D, 0x34, 0x12], [0x1E, 0x34,
       0x12], [0x1F, 0x34, 0x12]] =
      [.bpl 0x34, .oraIndirectIndexed 0x34, .unsupported 0x12, .sloIndirectIndexed 0x34, .nopZeroPageX14 0x34,
       .oraZeroPageX 0x34, .aslZeroPageX 0x34, .sloZeroPageX 0x34, .clc, .oraAbsoluteY 0x1234, .nopImplied1A,
       .sloAbsoluteY 0x1234, .nopAbsoluteX1C 0x1234, .oraAbsoluteX 0x1234, .aslAbsoluteX 0x1234, .sloAbsoluteX 0x1234] := by decide

/-- Row 2x of the opcode map (R128; R129 to R131). -/
theorem test_decode_row_2 :
    firstInstrs
      [[0x20, 0x34, 0x12], [0x21, 0x34], [0x22], [0x23, 0x34], [0x24, 0x34], [0x25, 0x34], [0x26, 0x34], [0x27, 0x34],
       [0x28], [0x29, 0x34], [0x2A], [0x2B], [0x2C, 0x34, 0x12], [0x2D, 0x34, 0x12], [0x2E, 0x34, 0x12], [0x2F, 0x34,
       0x12]] =
      [.jsrAbsolute 0x1234, .andIndexedIndirect 0x34, .unsupported 0x22, .rlaIndexedIndirect 0x34, .bitZeroPage 0x34,
       .andZeroPage 0x34, .rolZeroPage 0x34, .rlaZeroPage 0x34, .plp, .andImmediate 0x34, .rolAccumulator,
       .unsupported 0x2B, .bitAbsolute 0x1234, .andAbsolute 0x1234, .rolAbsolute 0x1234, .rlaAbsolute 0x1234] := by decide

/-- Row 3x of the opcode map (R128; R129 to R131). -/
theorem test_decode_row_3 :
    firstInstrs
      [[0x30, 0x34], [0x31, 0x34], [0x32], [0x33, 0x34], [0x34, 0x34], [0x35, 0x34], [0x36, 0x34], [0x37, 0x34],
       [0x38], [0x39, 0x34, 0x12], [0x3A], [0x3B, 0x34, 0x12], [0x3C, 0x34, 0x12], [0x3D, 0x34, 0x12], [0x3E, 0x34,
       0x12], [0x3F, 0x34, 0x12]] =
      [.bmi 0x34, .andIndirectIndexed 0x34, .unsupported 0x32, .rlaIndirectIndexed 0x34, .nopZeroPageX34 0x34,
       .andZeroPageX 0x34, .rolZeroPageX 0x34, .rlaZeroPageX 0x34, .sec, .andAbsoluteY 0x1234, .nopImplied3A,
       .rlaAbsoluteY 0x1234, .nopAbsoluteX3C 0x1234, .andAbsoluteX 0x1234, .rolAbsoluteX 0x1234, .rlaAbsoluteX 0x1234] := by decide

/-- Row 4x of the opcode map (R128; R129 to R131). -/
theorem test_decode_row_4 :
    firstInstrs
      [[0x40], [0x41, 0x34], [0x42], [0x43, 0x34], [0x44, 0x34], [0x45, 0x34], [0x46, 0x34], [0x47, 0x34], [0x48],
       [0x49, 0x34], [0x4A], [0x4B], [0x4C, 0x34, 0x12], [0x4D, 0x34, 0x12], [0x4E, 0x34, 0x12], [0x4F, 0x34, 0x12]] =
      [.rti, .eorIndexedIndirect 0x34, .unsupported 0x42, .sreIndexedIndirect 0x34, .nopZeroPage44 0x34, .eorZeroPage
       0x34, .lsrZeroPage 0x34, .sreZeroPage 0x34, .pha, .eorImmediate 0x34, .lsrAccumulator, .unsupported 0x4B,
       .jmpAbsolute 0x1234, .eorAbsolute 0x1234, .lsrAbsolute 0x1234, .sreAbsolute 0x1234] := by decide

/-- Row 5x of the opcode map (R128; R129 to R131). -/
theorem test_decode_row_5 :
    firstInstrs
      [[0x50, 0x34], [0x51, 0x34], [0x52], [0x53, 0x34], [0x54, 0x34], [0x55, 0x34], [0x56, 0x34], [0x57, 0x34],
       [0x58], [0x59, 0x34, 0x12], [0x5A], [0x5B, 0x34, 0x12], [0x5C, 0x34, 0x12], [0x5D, 0x34, 0x12], [0x5E, 0x34,
       0x12], [0x5F, 0x34, 0x12]] =
      [.bvc 0x34, .eorIndirectIndexed 0x34, .unsupported 0x52, .sreIndirectIndexed 0x34, .nopZeroPageX54 0x34,
       .eorZeroPageX 0x34, .lsrZeroPageX 0x34, .sreZeroPageX 0x34, .cli, .eorAbsoluteY 0x1234, .nopImplied5A,
       .sreAbsoluteY 0x1234, .nopAbsoluteX5C 0x1234, .eorAbsoluteX 0x1234, .lsrAbsoluteX 0x1234, .sreAbsoluteX 0x1234] := by decide

/-- Row 6x of the opcode map (R128; R129 to R131). -/
theorem test_decode_row_6 :
    firstInstrs
      [[0x60], [0x61, 0x34], [0x62], [0x63, 0x34], [0x64, 0x34], [0x65, 0x34], [0x66, 0x34], [0x67, 0x34], [0x68],
       [0x69, 0x34], [0x6A], [0x6B], [0x6C, 0x34, 0x12], [0x6D, 0x34, 0x12], [0x6E, 0x34, 0x12], [0x6F, 0x34, 0x12]] =
      [.rts, .adcIndexedIndirect 0x34, .unsupported 0x62, .rraIndexedIndirect 0x34, .nopZeroPage64 0x34, .adcZeroPage
       0x34, .rorZeroPage 0x34, .rraZeroPage 0x34, .pla, .adcImmediate 0x34, .rorAccumulator, .unsupported 0x6B,
       .jmpIndirect 0x1234, .adcAbsolute 0x1234, .rorAbsolute 0x1234, .rraAbsolute 0x1234] := by decide

/-- Row 7x of the opcode map (R128; R129 to R131). -/
theorem test_decode_row_7 :
    firstInstrs
      [[0x70, 0x34], [0x71, 0x34], [0x72], [0x73, 0x34], [0x74, 0x34], [0x75, 0x34], [0x76, 0x34], [0x77, 0x34],
       [0x78], [0x79, 0x34, 0x12], [0x7A], [0x7B, 0x34, 0x12], [0x7C, 0x34, 0x12], [0x7D, 0x34, 0x12], [0x7E, 0x34,
       0x12], [0x7F, 0x34, 0x12]] =
      [.bvs 0x34, .adcIndirectIndexed 0x34, .unsupported 0x72, .rraIndirectIndexed 0x34, .nopZeroPageX74 0x34,
       .adcZeroPageX 0x34, .rorZeroPageX 0x34, .rraZeroPageX 0x34, .sei, .adcAbsoluteY 0x1234, .nopImplied7A,
       .rraAbsoluteY 0x1234, .nopAbsoluteX7C 0x1234, .adcAbsoluteX 0x1234, .rorAbsoluteX 0x1234, .rraAbsoluteX 0x1234] := by decide

/-- Row 8x of the opcode map (R128; R129 to R131). -/
theorem test_decode_row_8 :
    firstInstrs
      [[0x80, 0x34], [0x81, 0x34], [0x82, 0x34], [0x83, 0x34], [0x84, 0x34], [0x85, 0x34], [0x86, 0x34], [0x87, 0x34],
       [0x88], [0x89, 0x34], [0x8A], [0x8B], [0x8C, 0x34, 0x12], [0x8D, 0x34, 0x12], [0x8E, 0x34, 0x12], [0x8F, 0x34,
       0x12]] =
      [.nopImmediate80 0x34, .staIndexedIndirect 0x34, .nopImmediate82 0x34, .saxIndexedIndirect 0x34, .styZeroPage
       0x34, .staZeroPage 0x34, .stxZeroPage 0x34, .saxZeroPage 0x34, .dey, .nopImmediate89 0x34, .txa, .unsupported
       0x8B, .styAbsolute 0x1234, .staAbsolute 0x1234, .stxAbsolute 0x1234, .saxAbsolute 0x1234] := by decide

/-- Row 9x of the opcode map (R128; R129 to R131). -/
theorem test_decode_row_9 :
    firstInstrs
      [[0x90, 0x34], [0x91, 0x34], [0x92], [0x93], [0x94, 0x34], [0x95, 0x34], [0x96, 0x34], [0x97, 0x34], [0x98],
       [0x99, 0x34, 0x12], [0x9A], [0x9B], [0x9C], [0x9D, 0x34, 0x12], [0x9E], [0x9F]] =
      [.bcc 0x34, .staIndirectIndexed 0x34, .unsupported 0x92, .unsupported 0x93, .styZeroPageX 0x34, .staZeroPageX
       0x34, .stxZeroPageY 0x34, .saxZeroPageY 0x34, .tya, .staAbsoluteY 0x1234, .txs, .unsupported 0x9B, .unsupported
       0x9C, .staAbsoluteX 0x1234, .unsupported 0x9E, .unsupported 0x9F] := by decide

/-- Row Ax of the opcode map (R128; R129 to R131). -/
theorem test_decode_row_A :
    firstInstrs
      [[0xA0, 0x34], [0xA1, 0x34], [0xA2, 0x34], [0xA3, 0x34], [0xA4, 0x34], [0xA5, 0x34], [0xA6, 0x34], [0xA7, 0x34],
       [0xA8], [0xA9, 0x34], [0xAA], [0xAB], [0xAC, 0x34, 0x12], [0xAD, 0x34, 0x12], [0xAE, 0x34, 0x12], [0xAF, 0x34,
       0x12]] =
      [.ldyImmediate 0x34, .ldaIndexedIndirect 0x34, .ldxImmediate 0x34, .laxIndexedIndirect 0x34, .ldyZeroPage 0x34,
       .ldaZeroPage 0x34, .ldxZeroPage 0x34, .laxZeroPage 0x34, .tay, .ldaImmediate 0x34, .tax, .unsupported 0xAB,
       .ldyAbsolute 0x1234, .ldaAbsolute 0x1234, .ldxAbsolute 0x1234, .laxAbsolute 0x1234] := by decide

/-- Row Bx of the opcode map (R128; R129 to R131). -/
theorem test_decode_row_B :
    firstInstrs
      [[0xB0, 0x34], [0xB1, 0x34], [0xB2], [0xB3, 0x34], [0xB4, 0x34], [0xB5, 0x34], [0xB6, 0x34], [0xB7, 0x34],
       [0xB8], [0xB9, 0x34, 0x12], [0xBA], [0xBB], [0xBC, 0x34, 0x12], [0xBD, 0x34, 0x12], [0xBE, 0x34, 0x12], [0xBF,
       0x34, 0x12]] =
      [.bcs 0x34, .ldaIndirectIndexed 0x34, .unsupported 0xB2, .laxIndirectIndexed 0x34, .ldyZeroPageX 0x34,
       .ldaZeroPageX 0x34, .ldxZeroPageY 0x34, .laxZeroPageY 0x34, .clv, .ldaAbsoluteY 0x1234, .tsx, .unsupported
       0xBB, .ldyAbsoluteX 0x1234, .ldaAbsoluteX 0x1234, .ldxAbsoluteY 0x1234, .laxAbsoluteY 0x1234] := by decide

/-- Row Cx of the opcode map (R128; R129 to R131). -/
theorem test_decode_row_C :
    firstInstrs
      [[0xC0, 0x34], [0xC1, 0x34], [0xC2, 0x34], [0xC3, 0x34], [0xC4, 0x34], [0xC5, 0x34], [0xC6, 0x34], [0xC7, 0x34],
       [0xC8], [0xC9, 0x34], [0xCA], [0xCB], [0xCC, 0x34, 0x12], [0xCD, 0x34, 0x12], [0xCE, 0x34, 0x12], [0xCF, 0x34,
       0x12]] =
      [.cpyImmediate 0x34, .cmpIndexedIndirect 0x34, .nopImmediateC2 0x34, .dcpIndexedIndirect 0x34, .cpyZeroPage
       0x34, .cmpZeroPage 0x34, .decZeroPage 0x34, .dcpZeroPage 0x34, .iny, .cmpImmediate 0x34, .dex, .unsupported
       0xCB, .cpyAbsolute 0x1234, .cmpAbsolute 0x1234, .decAbsolute 0x1234, .dcpAbsolute 0x1234] := by decide

/-- Row Dx of the opcode map (R128; R129 to R131). -/
theorem test_decode_row_D :
    firstInstrs
      [[0xD0, 0x34], [0xD1, 0x34], [0xD2], [0xD3, 0x34], [0xD4, 0x34], [0xD5, 0x34], [0xD6, 0x34], [0xD7, 0x34],
       [0xD8], [0xD9, 0x34, 0x12], [0xDA], [0xDB, 0x34, 0x12], [0xDC, 0x34, 0x12], [0xDD, 0x34, 0x12], [0xDE, 0x34,
       0x12], [0xDF, 0x34, 0x12]] =
      [.bne 0x34, .cmpIndirectIndexed 0x34, .unsupported 0xD2, .dcpIndirectIndexed 0x34, .nopZeroPageXD4 0x34,
       .cmpZeroPageX 0x34, .decZeroPageX 0x34, .dcpZeroPageX 0x34, .cld, .cmpAbsoluteY 0x1234, .nopImpliedDA,
       .dcpAbsoluteY 0x1234, .nopAbsoluteXDC 0x1234, .cmpAbsoluteX 0x1234, .decAbsoluteX 0x1234, .dcpAbsoluteX 0x1234] := by decide

/-- Row Ex of the opcode map (R128; R129 to R131). -/
theorem test_decode_row_E :
    firstInstrs
      [[0xE0, 0x34], [0xE1, 0x34], [0xE2, 0x34], [0xE3, 0x34], [0xE4, 0x34], [0xE5, 0x34], [0xE6, 0x34], [0xE7, 0x34],
       [0xE8], [0xE9, 0x34], [0xEA], [0xEB, 0x34], [0xEC, 0x34, 0x12], [0xED, 0x34, 0x12], [0xEE, 0x34, 0x12], [0xEF,
       0x34, 0x12]] =
      [.cpxImmediate 0x34, .sbcIndexedIndirect 0x34, .nopImmediateE2 0x34, .isbIndexedIndirect 0x34, .cpxZeroPage
       0x34, .sbcZeroPage 0x34, .incZeroPage 0x34, .isbZeroPage 0x34, .inx, .sbcImmediate 0x34, .nop, .sbcImmediateEB
       0x34, .cpxAbsolute 0x1234, .sbcAbsolute 0x1234, .incAbsolute 0x1234, .isbAbsolute 0x1234] := by decide

/-- Row Fx of the opcode map (R128; R129 to R131). -/
theorem test_decode_row_F :
    firstInstrs
      [[0xF0, 0x34], [0xF1, 0x34], [0xF2], [0xF3, 0x34], [0xF4, 0x34], [0xF5, 0x34], [0xF6, 0x34], [0xF7, 0x34],
       [0xF8], [0xF9, 0x34, 0x12], [0xFA], [0xFB, 0x34, 0x12], [0xFC, 0x34, 0x12], [0xFD, 0x34, 0x12], [0xFE, 0x34,
       0x12], [0xFF, 0x34, 0x12]] =
      [.beq 0x34, .sbcIndirectIndexed 0x34, .unsupported 0xF2, .isbIndirectIndexed 0x34, .nopZeroPageXF4 0x34,
       .sbcZeroPageX 0x34, .incZeroPageX 0x34, .isbZeroPageX 0x34, .sed, .sbcAbsoluteY 0x1234, .nopImpliedFA,
       .isbAbsoluteY 0x1234, .nopAbsoluteXFC 0x1234, .sbcAbsoluteX 0x1234, .incAbsoluteX 0x1234, .isbAbsoluteX 0x1234] := by decide

/-! ## Single steps -/

/-- A machine at a step boundary: the bytes placed, the registers, the status byte and `PC` given. -/
def machine (bytes : List (Word × Byte)) (a x y sp p : Byte) (pc : Word) : State :=
  bytes.foldl (fun s c => s.poke c.1 c.2)
    { State.reset with a := a, x := x, y := y, sp := sp, flags := unpack p, pc := pc }

/-- What one step leaves: A, X, Y, SP, P, PC and the cycles as numbers, the bytes at some addresses, and the opcode a fatal error
reports. -/
def after (addrs : List Word) (s : State) : Option (List Nat × List Nat × Option Byte) :=
  match step s with
  | .next t =>
    some ([t.a.toNat, t.x.toNat, t.y.toNat, t.sp.toNat, t.p.toNat, t.pc.toNat, t.cycles],
      addrs.map fun a => ((t.peek a).getD 0).toNat,
      t.halted.bind fun r => match r.error with
        | .unsupportedOpcode op => some op
        | .stackExhaustion => none)
  | _ => none

/-- T1 (R150, R115). -/
theorem test_t1_ldaImmediate :
    after [] (machine [(0x8000, 0xA9), (0x8001, 0x00)] 0x55 0x00 0x00 0xFD 0x24 0x8000) =
      some ([0x00, 0x00, 0x00, 0xFD, 0x26, 0x8002, 2], [], none) := by decide

/-- T2 (R150, R117). -/
theorem test_t2_ldaZeroPageX :
    after [] (machine [(0x8000, 0xB5), (0x8001, 0xFF), (0x0001, 0x7F)] 0x00 0x02 0x00 0xFD 0x24 0x8000) =
      some ([0x7F, 0x02, 0x00, 0xFD, 0x24, 0x8002, 4], [], none) := by decide

/-- T3 (R150, R120, R55, R394). -/
theorem test_t3_ldaAbsoluteX :
    after [] (machine [(0x8000, 0xBD), (0x8001, 0xFF), (0x8002, 0x12), (0x0300, 0x80)] 0x00 0x01 0x00 0xFD 0x24 0x8000) =
      some ([0x80, 0x01, 0x00, 0xFD, 0xA4, 0x8003, 5], [], none) := by decide

/-- T4 (R150, R124, R66). -/
theorem test_t4_ldaIndirectIndexed :
    after [] (machine [(0x8000, 0xB1), (0x8001, 0xFF), (0x00FF, 0xF0), (0x0000, 0x02), (0x0310, 0x11), (0x0100, 0x99)] 0x00 0x00 0x20 0xFD 0x24 0x8000) =
      some ([0x11, 0x00, 0x20, 0xFD, 0x24, 0x8002, 6], [], none) := by decide

/-- T5 (R150, R123, R66). -/
theorem test_t5_ldaIndexedIndirect :
    after [] (machine [(0x8000, 0xA1), (0x8001, 0xFE), (0x00FF, 0x34), (0x0000, 0x02), (0x0234, 0x5A), (0x0100, 0x07)] 0x00 0x01 0x00 0xFD 0x24 0x8000) =
      some ([0x5A, 0x01, 0x00, 0xFD, 0x24, 0x8002, 6], [], none) := by decide

/-- T6 (R151, R118). -/
theorem test_t6_ldxZeroPageY :
    after [] (machine [(0x8000, 0xB6), (0x8001, 0x10)] 0x00 0x00 0xF5 0xFD 0x24 0x8000) =
      some ([0x00, 0x00, 0xF5, 0xFD, 0x26, 0x8002, 4], [], none) := by decide

/-- T7 (R153, R120, R394). -/
theorem test_t7_staAbsoluteX :
    after [0x0300] (machine [(0x8000, 0x9D), (0x8001, 0xFF), (0x8002, 0x02)] 0x42 0x01 0x00 0xFD 0x24 0x8000) =
      some ([0x42, 0x01, 0x00, 0xFD, 0x24, 0x8003, 5], [0x42], none) := by decide

/-- T8 (R153, R78). -/
theorem test_t8_staAbsolute :
    after [0x8000] (machine [(0x8000, 0x8D), (0x8001, 0x00), (0x8002, 0x80)] 0x42 0x00 0x00 0xFD 0x24 0x8000) =
      some ([0x42, 0x00, 0x00, 0xFD, 0x24, 0x8003, 4], [0x8D], none) := by decide

/-- T9 (R155, R117). -/
theorem test_t9_styZeroPageX :
    after [0x0000] (machine [(0x8000, 0x94), (0x8001, 0xFF)] 0x00 0x01 0x07 0xFD 0x24 0x8000) =
      some ([0x00, 0x01, 0x07, 0xFD, 0x24, 0x8002, 4], [0x07], none) := by decide

/-- T10 (R153, R55). -/
theorem test_t10_staAbsolute :
    after [0x0000, 0x0800, 0x1000] (machine [(0x8000, 0x8D), (0x8001, 0x00), (0x8002, 0x18)] 0x99 0x00 0x00 0xFD 0x24 0x8000) =
      some ([0x99, 0x00, 0x00, 0xFD, 0x24, 0x8003, 4], [0x99, 0x99, 0x99], none) := by decide

/-- T12 (R152, R120). -/
theorem test_t12_ldyAbsoluteX :
    after [] (machine [(0x8000, 0xBC), (0x8001, 0x10), (0x8002, 0x02)] 0x00 0x05 0x00 0xFD 0x24 0x8000) =
      some ([0x00, 0x05, 0x00, 0xFD, 0x26, 0x8003, 4], [], none) := by decide

/-- T13 (R154, R118). -/
theorem test_t13_stxZeroPageY :
    after [0x0010] (machine [(0x8000, 0x96), (0x8001, 0xF0)] 0x00 0x77 0x20 0xFD 0x24 0x8000) =
      some ([0x00, 0x77, 0x20, 0xFD, 0x24, 0x8002, 4], [0x77], none) := by decide

/-- T14 (R150, R121, R394). -/
theorem test_t14_ldaAbsoluteY :
    after [] (machine [(0x8000, 0xB9), (0x8001, 0x01), (0x8002, 0x02), (0x0300, 0x01)] 0x00 0x00 0xFF 0xFD 0x24 0x8000) =
      some ([0x01, 0x00, 0xFF, 0xFD, 0x24, 0x8003, 5], [], none) := by decide

/-- T20 (R165). -/
theorem test_t20_txs :
    after [] (machine [(0x8000, 0x9A)] 0x00 0x00 0x00 0xFD 0x24 0x8000) =
      some ([0x00, 0x00, 0x00, 0x00, 0x24, 0x8001, 2], [], none) := by decide

/-- T21 (R164). -/
theorem test_t21_tsx :
    after [] (machine [(0x8000, 0xBA)] 0x00 0x00 0x00 0x00 0x24 0x8000) =
      some ([0x00, 0x00, 0x00, 0x00, 0x26, 0x8001, 2], [], none) := by decide

/-- T22 (R166, R62, R64). -/
theorem test_t22_pha :
    after [0x0100] (machine [(0x8000, 0x48)] 0x42 0x00 0x00 0x00 0x24 0x8000) =
      some ([0x42, 0x00, 0x00, 0xFF, 0x24, 0x8001, 3], [0x42], none) := by decide

/-- T23 (R168, R63, R64). -/
theorem test_t23_pla :
    after [] (machine [(0x8000, 0x68), (0x0100, 0x80)] 0x00 0x00 0x00 0xFF 0x24 0x8000) =
      some ([0x80, 0x00, 0x00, 0x00, 0xA4, 0x8001, 4], [], none) := by decide

/-- T24 (R167, R24). -/
theorem test_t24_php :
    after [0x01FD] (machine [(0x8000, 0x08)] 0x00 0x00 0x00 0xFD 0xE3 0x8000) =
      some ([0x00, 0x00, 0x00, 0xFC, 0xE3, 0x8001, 3], [0xF3], none) := by decide

/-- T25 (R169, R25). -/
theorem test_t25_plp :
    after [] (machine [(0x8000, 0x28), (0x01FD, 0xFF)] 0x00 0x00 0x00 0xFC 0x24 0x8000) =
      some ([0x00, 0x00, 0x00, 0xFD, 0xFF, 0x8001, 4], [], none) := by decide

/-- T26 (R169, R25). -/
theorem test_t26_plp :
    after [] (machine [(0x8000, 0x28)] 0x00 0x00 0x00 0xFC 0xFF 0x8000) =
      some ([0x00, 0x00, 0x00, 0xFD, 0x20, 0x8001, 4], [], none) := by decide

/-- T27 (R160). -/
theorem test_t27_tax :
    after [] (machine [(0x8000, 0xAA)] 0x00 0x05 0x00 0xFD 0x24 0x8000) =
      some ([0x00, 0x00, 0x00, 0xFD, 0x26, 0x8001, 2], [], none) := by decide

/-- T28 (R163). -/
theorem test_t28_tya :
    after [] (machine [(0x8000, 0x98)] 0x00 0x00 0x80 0xFD 0x24 0x8000) =
      some ([0x80, 0x00, 0x80, 0xFD, 0xA4, 0x8001, 2], [], none) := by decide

/-- T29 (R161). -/
theorem test_t29_tay :
    after [] (machine [(0x8000, 0xA8)] 0x80 0x00 0x01 0xFD 0x24 0x8000) =
      some ([0x80, 0x00, 0x80, 0xFD, 0xA4, 0x8001, 2], [], none) := by decide

/-- T31 (R181). -/
theorem test_t31_adcImmediate :
    after [] (machine [(0x8000, 0x69), (0x8001, 0x00)] 0x7F 0x00 0x00 0xFD 0x25 0x8000) =
      some ([0x80, 0x00, 0x00, 0xFD, 0xE4, 0x8002, 2], [], none) := by decide

/-- T32 (R181). -/
theorem test_t32_adcImmediate :
    after [] (machine [(0x8000, 0x69), (0x8001, 0x80)] 0x80 0x00 0x00 0xFD 0x24 0x8000) =
      some ([0x00, 0x00, 0x00, 0xFD, 0x67, 0x8002, 2], [], none) := by decide

/-- T35 (R182). -/
theorem test_t35_sbcImmediate :
    after [] (machine [(0x8000, 0xE9), (0x8001, 0x01)] 0x80 0x00 0x00 0xFD 0x25 0x8000) =
      some ([0x7F, 0x00, 0x00, 0xFD, 0x65, 0x8002, 2], [], none) := by decide

/-- T37 (R182). -/
theorem test_t37_sbcImmediate :
    after [] (machine [(0x8000, 0xE9), (0x8001, 0x00)] 0x00 0x00 0x00 0xFD 0x24 0x8000) =
      some ([0xFF, 0x00, 0x00, 0xFD, 0xA4, 0x8002, 2], [], none) := by decide

/-- T38 (R183). -/
theorem test_t38_cmpImmediate :
    after [] (machine [(0x8000, 0xC9), (0x8001, 0x01)] 0x80 0x00 0x00 0xFD 0x64 0x8000) =
      some ([0x80, 0x00, 0x00, 0xFD, 0x65, 0x8002, 2], [], none) := by decide

/-- T39 (R183). -/
theorem test_t39_cmpImmediate :
    after [] (machine [(0x8000, 0xC9), (0x8001, 0x80)] 0x01 0x00 0x00 0xFD 0x24 0x8000) =
      some ([0x01, 0x00, 0x00, 0xFD, 0xA4, 0x8002, 2], [], none) := by decide

/-- T40 (R184). -/
theorem test_t40_cpxImmediate :
    after [] (machine [(0x8000, 0xE0), (0x8001, 0x05)] 0x00 0x03 0x00 0xFD 0x24 0x8000) =
      some ([0x00, 0x03, 0x00, 0xFD, 0xA4, 0x8002, 2], [], none) := by decide

/-- T41 (R185). -/
theorem test_t41_cpyZeroPage :
    after [] (machine [(0x8000, 0xC4), (0x8001, 0x10), (0x0010, 0x10)] 0x00 0x00 0x10 0xFD 0x24 0x8000) =
      some ([0x00, 0x00, 0x10, 0xFD, 0x27, 0x8002, 3], [], none) := by decide

/-- T42 (R186, R394). -/
theorem test_t42_incAbsoluteX :
    after [0x0300] (machine [(0x8000, 0xFE), (0x8001, 0xFF), (0x8002, 0x02), (0x0300, 0x7F)] 0x00 0x01 0x00 0xFD 0x25 0x8000) =
      some ([0x00, 0x01, 0x00, 0xFD, 0xA5, 0x8003, 7], [0x80], none) := by decide

/-- T43 (R187). -/
theorem test_t43_decZeroPage :
    after [0x0010] (machine [(0x8000, 0xC6), (0x8001, 0x10), (0x0010, 0x01)] 0x00 0x00 0x00 0xFD 0x24 0x8000) =
      some ([0x00, 0x00, 0x00, 0xFD, 0x26, 0x8002, 5], [0x00], none) := by decide

/-- T44 (R188). -/
theorem test_t44_inx :
    after [] (machine [(0x8000, 0xE8)] 0x00 0xFF 0x00 0xFD 0x25 0x8000) =
      some ([0x00, 0x00, 0x00, 0xFD, 0x27, 0x8001, 2], [], none) := by decide

/-- T45 (R191). -/
theorem test_t45_dey :
    after [] (machine [(0x8000, 0x88)] 0x00 0x00 0x00 0xFD 0x24 0x8000) =
      some ([0x00, 0x00, 0xFF, 0xFD, 0xA4, 0x8001, 2], [], none) := by decide

/-- T46 (R189). -/
theorem test_t46_iny :
    after [] (machine [(0x8000, 0xC8)] 0x00 0x00 0x7F 0xFD 0x24 0x8000) =
      some ([0x00, 0x00, 0x80, 0xFD, 0xA4, 0x8001, 2], [], none) := by decide

/-- T47 (R190). -/
theorem test_t47_dex :
    after [] (machine [(0x8000, 0xCA)] 0x00 0x00 0x00 0xFD 0x24 0x8000) =
      some ([0x00, 0xFF, 0x00, 0xFD, 0xA4, 0x8001, 2], [], none) := by decide

/-- T50 (R200). -/
theorem test_t50_andImmediate :
    after [] (machine [(0x8000, 0x29), (0x8001, 0x0F)] 0xF0 0x00 0x00 0xFD 0x65 0x8000) =
      some ([0x00, 0x00, 0x00, 0xFD, 0x67, 0x8002, 2], [], none) := by decide

/-- T51 (R201). -/
theorem test_t51_oraImmediate :
    after [] (machine [(0x8000, 0x09), (0x8001, 0x00)] 0x00 0x00 0x00 0xFD 0x24 0x8000) =
      some ([0x00, 0x00, 0x00, 0xFD, 0x26, 0x8002, 2], [], none) := by decide

/-- T52 (R202). -/
theorem test_t52_eorImmediate :
    after [] (machine [(0x8000, 0x49), (0x8001, 0xFF)] 0xFF 0x00 0x00 0xFD 0x24 0x8000) =
      some ([0x00, 0x00, 0x00, 0xFD, 0x26, 0x8002, 2], [], none) := by decide

/-- T53 (R203). -/
theorem test_t53_bitAbsolute :
    after [] (machine [(0x8000, 0x2C), (0x8001, 0x00), (0x8002, 0x02), (0x0200, 0xC0)] 0x00 0x00 0x00 0xFD 0x24 0x8000) =
      some ([0x00, 0x00, 0x00, 0xFD, 0xE6, 0x8003, 4], [], none) := by decide

/-- T54 (R204, R208). -/
theorem test_t54_aslZeroPage :
    after [0x0010] (machine [(0x8000, 0x06), (0x8001, 0x10), (0x0010, 0x80)] 0x33 0x00 0x00 0xFD 0x24 0x8000) =
      some ([0x33, 0x00, 0x00, 0xFD, 0x27, 0x8002, 5], [0x00], none) := by decide

/-- T55 (R205). -/
theorem test_t55_lsrAccumulator :
    after [] (machine [(0x8000, 0x4A)] 0x01 0x00 0x00 0xFD 0xA4 0x8000) =
      some ([0x00, 0x00, 0x00, 0xFD, 0x27, 0x8001, 2], [], none) := by decide

/-- T56 (R206, R208). -/
theorem test_t56_rolAbsolute :
    after [0x0200] (machine [(0x8000, 0x2E), (0x8001, 0x00), (0x8002, 0x02), (0x0200, 0x40)] 0x00 0x00 0x00 0xFD 0x25 0x8000) =
      some ([0x00, 0x00, 0x00, 0xFD, 0xA4, 0x8003, 6], [0x81], none) := by decide

/-- T57 (R207). -/
theorem test_t57_rorAccumulator :
    after [] (machine [(0x8000, 0x6A)] 0x00 0x00 0x00 0xFD 0x25 0x8000) =
      some ([0x80, 0x00, 0x00, 0xFD, 0xA4, 0x8001, 2], [], none) := by decide

/-- T58 (R207, R394). -/
theorem test_t58_rorAbsoluteX :
    after [0x0300] (machine [(0x8000, 0x7E), (0x8001, 0xFF), (0x8002, 0x02), (0x0300, 0x01)] 0x00 0x01 0x00 0xFD 0x24 0x8000) =
      some ([0x00, 0x01, 0x00, 0xFD, 0x27, 0x8003, 7], [0x00], none) := by decide

/-- T59 (R204). -/
theorem test_t59_aslAccumulator :
    after [] (machine [(0x8000, 0x0A)] 0xC0 0x00 0x00 0xFD 0x24 0x8000) =
      some ([0x80, 0x00, 0x00, 0xFD, 0xA5, 0x8001, 2], [], none) := by decide

/-- T60 (R224, R220, R125). -/
theorem test_t60_bne :
    after [] (machine [(0x80FE, 0xD0), (0x80FF, 0xFF)] 0x00 0x00 0x00 0xFD 0x24 0x80FE) =
      some ([0x00, 0x00, 0x00, 0xFD, 0x24, 0x80FF, 4], [], none) := by decide

/-- T61 (R224, R220). -/
theorem test_t61_bne :
    after [] (machine [(0x80FE, 0xD0), (0x80FF, 0xFF)] 0x00 0x00 0x00 0xFD 0x26 0x80FE) =
      some ([0x00, 0x00, 0x00, 0xFD, 0x26, 0x8100, 2], [], none) := by decide

/-- T62 (R223, R125). -/
theorem test_t62_beq :
    after [] (machine [(0x8000, 0xF0), (0x8001, 0x7F)] 0x00 0x00 0x00 0xFD 0x26 0x8000) =
      some ([0x00, 0x00, 0x00, 0xFD, 0x26, 0x8081, 3], [], none) := by decide

/-- T63 (R221, R125). -/
theorem test_t63_bcc :
    after [] (machine [(0x8000, 0x90), (0x8001, 0x80)] 0x00 0x00 0x00 0xFD 0x24 0x8000) =
      some ([0x00, 0x00, 0x00, 0xFD, 0x24, 0x7F82, 4], [], none) := by decide

/-- T64 (R222, R125). -/
theorem test_t64_bcs :
    after [] (machine [(0xFFF0, 0xB0), (0xFFF1, 0x20)] 0x00 0x00 0x00 0xFD 0x25 0xFFF0) =
      some ([0x00, 0x00, 0x00, 0xFD, 0x25, 0x0012, 4], [], none) := by decide

/-- T65 (R225). -/
theorem test_t65_bmi :
    after [] (machine [(0x8000, 0x30), (0x8001, 0x02)] 0x00 0x00 0x00 0xFD 0xA4 0x8000) =
      some ([0x00, 0x00, 0x00, 0xFD, 0xA4, 0x8004, 3], [], none) := by decide

/-- T66 (R226). -/
theorem test_t66_bpl :
    after [] (machine [(0x8000, 0x10), (0x8001, 0x02)] 0x00 0x00 0x00 0xFD 0xA4 0x8000) =
      some ([0x00, 0x00, 0x00, 0xFD, 0xA4, 0x8002, 2], [], none) := by decide

/-- T67 (R227). -/
theorem test_t67_bvc :
    after [] (machine [(0x8000, 0x50), (0x8001, 0xFE)] 0x00 0x00 0x00 0xFD 0x24 0x8000) =
      some ([0x00, 0x00, 0x00, 0xFD, 0x24, 0x8000, 3], [], none) := by decide

/-- T68 (R228). -/
theorem test_t68_bvs :
    after [] (machine [(0x8000, 0x70), (0x8001, 0x10)] 0x00 0x00 0x00 0xFD 0x64 0x8000) =
      some ([0x00, 0x00, 0x00, 0xFD, 0x64, 0x8012, 3], [], none) := by decide

/-- T69 (R229). -/
theorem test_t69_jmpAbsolute :
    after [] (machine [(0x8000, 0x4C), (0x8001, 0x34), (0x8002, 0x12)] 0x00 0x00 0x00 0xFD 0x24 0x8000) =
      some ([0x00, 0x00, 0x00, 0xFD, 0x24, 0x1234, 3], [], none) := by decide

/-- T70 (R229, R122, R66). -/
theorem test_t70_jmpIndirect :
    after [] (machine [(0x8000, 0x6C), (0x8001, 0xFF), (0x8002, 0x02), (0x02FF, 0x34), (0x0200, 0x12), (0x0300, 0x56)] 0x00 0x00 0x00 0xFD 0x24 0x8000) =
      some ([0x00, 0x00, 0x00, 0xFD, 0x24, 0x1234, 5], [], none) := by decide

/-- T71 (R229, R122). -/
theorem test_t71_jmpIndirect :
    after [] (machine [(0x8000, 0x6C), (0x8001, 0x00), (0x8002, 0x02), (0x0200, 0x78), (0x0201, 0x56)] 0x00 0x00 0x00 0xFD 0x24 0x8000) =
      some ([0x00, 0x00, 0x00, 0xFD, 0x24, 0x5678, 5], [], none) := by decide

/-- T72 (R230). -/
theorem test_t72_jsrAbsolute :
    after [0x01FD, 0x01FC] (machine [(0x80FE, 0x20), (0x80FF, 0x00), (0x8100, 0x90)] 0x00 0x00 0x00 0xFD 0x24 0x80FE) =
      some ([0x00, 0x00, 0x00, 0xFB, 0x24, 0x9000, 6], [0x81, 0x00], none) := by decide

/-- T73 (R231). -/
theorem test_t73_rts :
    after [] (machine [(0x8000, 0x60), (0x01FD, 0x81)] 0x00 0x00 0x00 0xFB 0x24 0x8000) =
      some ([0x00, 0x00, 0x00, 0xFD, 0x24, 0x8101, 6], [], none) := by decide

/-- T74 (R231, R64). -/
theorem test_t74_rts :
    after [] (machine [(0x8000, 0x60), (0x01FF, 0xFF), (0x0100, 0xFF)] 0x00 0x00 0x00 0xFE 0x24 0x8000) =
      some ([0x00, 0x00, 0x00, 0x00, 0x24, 0x0000, 6], [], none) := by decide

/-- T80 (R245). -/
theorem test_t80_clc :
    after [] (machine [(0x8000, 0x18)] 0x00 0x00 0x00 0xFD 0xE7 0x8000) =
      some ([0x00, 0x00, 0x00, 0xFD, 0xE6, 0x8001, 2], [], none) := by decide

/-- T81 (R246). -/
theorem test_t81_sec :
    after [] (machine [(0x8000, 0x38)] 0x00 0x00 0x00 0xFD 0x24 0x8000) =
      some ([0x00, 0x00, 0x00, 0xFD, 0x25, 0x8001, 2], [], none) := by decide

/-- T82 (R247). -/
theorem test_t82_cli :
    after [] (machine [(0x8000, 0x58)] 0x00 0x00 0x00 0xFD 0x24 0x8000) =
      some ([0x00, 0x00, 0x00, 0xFD, 0x20, 0x8001, 2], [], none) := by decide

/-- T83 (R248). -/
theorem test_t83_sei :
    after [] (machine [(0x8000, 0x78)] 0x00 0x00 0x00 0xFD 0x20 0x8000) =
      some ([0x00, 0x00, 0x00, 0xFD, 0x24, 0x8001, 2], [], none) := by decide

/-- T84 (R249). -/
theorem test_t84_cld :
    after [] (machine [(0x8000, 0xD8)] 0x00 0x00 0x00 0xFD 0x2C 0x8000) =
      some ([0x00, 0x00, 0x00, 0xFD, 0x24, 0x8001, 2], [], none) := by decide

/-- T85 (R250). -/
theorem test_t85_sed :
    after [] (machine [(0x8000, 0xF8)] 0x00 0x00 0x00 0xFD 0x24 0x8000) =
      some ([0x00, 0x00, 0x00, 0xFD, 0x2C, 0x8001, 2], [], none) := by decide

/-- T86 (R251). -/
theorem test_t86_clv :
    after [] (machine [(0x8000, 0xB8)] 0x00 0x00 0x00 0xFD 0x64 0x8000) =
      some ([0x00, 0x00, 0x00, 0xFD, 0x24, 0x8001, 2], [], none) := by decide

/-- T87 (R252). -/
theorem test_t87_nop :
    after [] (machine [(0x8000, 0xEA)] 0x01 0x02 0x03 0xFD 0xE7 0x8000) =
      some ([0x01, 0x02, 0x03, 0xFD, 0xE7, 0x8001, 2], [], none) := by decide

/-- T88 (R253). -/
theorem test_t88_brk :
    after [0x01FD, 0x01FC, 0x01FB] (machine [(0x8000, 0x00), (0x8001, 0xFF), (0xFFFE, 0x00), (0xFFFF, 0x91)] 0x00 0x00 0x00 0xFD 0xE3 0x8000) =
      some ([0x00, 0x00, 0x00, 0xFA, 0xE7, 0x9100, 7], [0x80, 0x02, 0xF3], none) := by decide

/-- T89 (R254). -/
theorem test_t89_rti :
    after [] (machine [(0x8000, 0x40), (0x01FB, 0xF3), (0x01FC, 0x02), (0x01FD, 0x80)] 0x00 0x00 0x00 0xFA 0x24 0x8000) =
      some ([0x00, 0x00, 0x00, 0xFD, 0xF3, 0x8002, 6], [], none) := by decide

/-- T90 (R254). -/
theorem test_t90_rti :
    after [] (machine [(0x8000, 0x40), (0x01FC, 0x34), (0x01FD, 0x12)] 0x00 0x00 0x00 0xFA 0x24 0x8000) =
      some ([0x00, 0x00, 0x00, 0xFD, 0x20, 0x1234, 6], [], none) := by decide

/-- T100 (R266, R124). -/
theorem test_t100_laxIndirectIndexed :
    after [] (machine [(0x8000, 0xB3), (0x8001, 0x10), (0x0010, 0x01), (0x0011, 0x02), (0x0300, 0x80)] 0x00 0x00 0xFF 0xFD 0x24 0x8000) =
      some ([0x80, 0x80, 0xFF, 0xFD, 0xA4, 0x8002, 6], [], none) := by decide

/-- T101 (R267, R118). -/
theorem test_t101_saxZeroPageY :
    after [0x0001] (machine [(0x8000, 0x97), (0x8001, 0xFF)] 0xF0 0x3C 0x02 0xFD 0x24 0x8000) =
      some ([0xF0, 0x3C, 0x02, 0xFD, 0x24, 0x8002, 4], [0x30], none) := by decide

/-- T102 (R268). -/
theorem test_t102_dcpAbsoluteY :
    after [0x0300] (machine [(0x8000, 0xDB), (0x8001, 0xFF), (0x8002, 0x02)] 0xFF 0x00 0x01 0xFD 0x24 0x8000) =
      some ([0xFF, 0x00, 0x01, 0xFD, 0x27, 0x8003, 7], [0xFF], none) := by decide

/-- T103 (R269). -/
theorem test_t103_isbZeroPage :
    after [0x0010] (machine [(0x8000, 0xE7), (0x8001, 0x10), (0x0010, 0xFF)] 0x80 0x00 0x00 0xFD 0x24 0x8000) =
      some ([0x7F, 0x00, 0x00, 0xFD, 0x65, 0x8002, 5], [0x00], none) := by decide

/-- T104 (R270). -/
theorem test_t104_sloAbsoluteX :
    after [0x0200] (machine [(0x8000, 0x1F), (0x8001, 0x00), (0x8002, 0x02), (0x0200, 0x80)] 0x00 0x00 0x00 0xFD 0x24 0x8000) =
      some ([0x00, 0x00, 0x00, 0xFD, 0x27, 0x8003, 7], [0x00], none) := by decide

/-- T105 (R271). -/
theorem test_t105_rlaZeroPage :
    after [0x0010] (machine [(0x8000, 0x27), (0x8001, 0x10), (0x0010, 0x88)] 0x0F 0x00 0x00 0xFD 0x24 0x8000) =
      some ([0x00, 0x00, 0x00, 0xFD, 0x27, 0x8002, 5], [0x10], none) := by decide

/-- T106 (R272). -/
theorem test_t106_sreZeroPage :
    after [0x0010] (machine [(0x8000, 0x47), (0x8001, 0x10), (0x0010, 0xFE)] 0xFF 0x00 0x00 0xFD 0x24 0x8000) =
      some ([0x80, 0x00, 0x00, 0xFD, 0xA4, 0x8002, 5], [0x7F], none) := by decide

/-- T107 (R273). -/
theorem test_t107_rraZeroPage :
    after [0x0010] (machine [(0x8000, 0x67), (0x8001, 0x10)] 0x7F 0x00 0x00 0xFD 0x25 0x8000) =
      some ([0xFF, 0x00, 0x00, 0xFD, 0xA4, 0x8002, 5], [0x80], none) := by decide

/-- T108 (R274, R394). -/
theorem test_t108_nopAbsoluteX1C :
    after [] (machine [(0x8000, 0x1C), (0x8001, 0xFF), (0x8002, 0x02), (0x0300, 0x77)] 0x00 0x01 0x00 0xFD 0x24 0x8000) =
      some ([0x00, 0x01, 0x00, 0xFD, 0x24, 0x8003, 5], [], none) := by decide

/-- T109 (R274). -/
theorem test_t109_nopImmediate80 :
    after [] (machine [(0x8000, 0x80), (0x8001, 0x55)] 0x00 0x00 0x00 0xFD 0x24 0x8000) =
      some ([0x00, 0x00, 0x00, 0xFD, 0x24, 0x8002, 2], [], none) := by decide

/-- T110 (R274). -/
theorem test_t110_nopImplied1A :
    after [] (machine [(0x8000, 0x1A)] 0x00 0x00 0x00 0xFD 0x24 0x8000) =
      some ([0x00, 0x00, 0x00, 0xFD, 0x24, 0x8001, 2], [], none) := by decide

/-- T111 (R275). -/
theorem test_t111_sbcImmediateEB :
    after [] (machine [(0x8000, 0xEB), (0x8001, 0x01)] 0x00 0x00 0x00 0xFD 0x25 0x8000) =
      some ([0xFF, 0x00, 0x00, 0xFD, 0xA4, 0x8002, 2], [], none) := by decide

/-- T112 (R131, R301). -/
theorem test_t112_unsupported :
    after [] (machine [(0x8000, 0x02)] 0x01 0x00 0x00 0xFD 0x24 0x8000) =
      some ([0x01, 0x00, 0x00, 0xFD, 0x24, 0x8000, 0], [], some 0x02) := by decide

/-- T113 (R131, R301). -/
theorem test_t113_unsupported :
    after [] (machine [(0x8000, 0xAB), (0x8001, 0x10)] 0x00 0x00 0x00 0xFD 0x24 0x8000) =
      some ([0x00, 0x00, 0x00, 0xFD, 0x24, 0x8000, 0], [], some 0xAB) := by decide

/-! ## The machine's other parts -/

/-- NMI entry (vector I1's shape: R309, R310): from `PC` 0x8000 to the vector 0x9000, three bytes pushed, 7 cycles. -/
theorem test_nmi_entry :
    after [0x01FD, 0x01FC, 0x01FB]
      { machine [(0xFFFA, 0x00), (0xFFFB, 0x90)] 0x00 0x00 0x00 0xFD 0xE3 0x8000 with nmiPending := true } =
      some ([0x00, 0x00, 0x00, 0xFA, 0xE7, 0x9000, 7], [0x80, 0x00, 0xE3], none) := by decide

/-- An IRQ that `I` masks waits (R307): the NOP at 0x8000 runs. -/
theorem test_irq_masked :
    after [] { machine [(0x8000, 0xEA)] 0x00 0x00 0x00 0xFD 0x24 0x8000 with extIrq := true } =
      some ([0x00, 0x00, 0x00, 0xFD, 0x24, 0x8001, 2], [], none) := by decide

/-- A reset at the boundary: `PC` from 0xFFFC, `SP` 0xFD, `P` 0x24, then the instruction there (R380, R386). -/
theorem test_reset_event :
    after [] { machine [(0x8123, 0xEA), (0xFFFC, 0x23), (0xFFFD, 0x81)] 0x01 0x02 0x03 0x10 0xFF 0x9000 with
      boundaries := [[.reset]] } = some ([0x01, 0x02, 0x03, 0xFD, 0x24, 0x8124, 2], [], none) := by decide

/-- The switchable board of the tests: two banks. -/
def switchable : State := { State.reset with cart := { Cart.blank with variant := .switchable } }

/-- R88's worked protocol: 1, 0, 1, 0, 0 commits 5 to the program bank. -/
theorem test_serial_protocol :
    (let t := [0x01, 0x00, 0x01, 0x00, 0x00].foldl (fun s v => busWrite 0xE000 v s) switchable
     (t.cart.prgBank, t.cart.shift, t.cart.count)) = (5, 0, 0) := by decide

/-- V7: in 4-step mode the frame interrupt comes on the last step. -/
theorem test_frame_irq :
    [0, 1, 2, 3].map (fun k : BitVec 3 => ({ Apu.powerOn with frameStep := k } : Apu).frameClock.frameIrq) =
      [false, false, false, true] := by decide

/-- The host's placement: LDA #$34 runs as the first instruction after reset. -/
theorem test_withFetchWord :
    after [] (State.reset.withFetchWord 16 0x34A9) = some ([0x34, 0x00, 0x00, 0xFD, 0x24, 0x0002, 2], [], none) := by decide

theorem test_decodeTableWord : decodeTableWord 24 0x1234AD = some (.ldaAbsolute 0x1234) ∧
    decodeTableWord 8 0xAD = some (.ldaAbsolute 0x0000) := by decide

/-- STA $4014 costs 513 cycles more on an even count and 514 on an odd one (R58). -/
theorem test_dma_cycles : dmaCycles 0 = 513 ∧ dmaCycles 1 = 514 := by decide

/-! ## Witnesses: states and operands that meet each statement's hypotheses -/

/-- A machine with LDA $0200 at 0x8000, vectors at the end of its ROM and bytes on its stack. -/
def sample : State :=
  machine [(0x8000, 0xAD), (0x8001, 0x00), (0x8002, 0x02), (0x0200, 0x7F), (0xFFFA, 0x00), (0xFFFB, 0x90),
    (0xFFFC, 0x00), (0xFFFD, 0x80), (0xFFFE, 0x00), (0xFFFF, 0x91)] 0x11 0x22 0x33 0xFD 0x20 0x8000

/-- The same with the stack policy `fatal` and another stack pointer. -/
def fatalAt (sp : Byte) : State := { sample with sp := sp, params := { stackPolicy := .fatal, undocSet := true } }

theorem witness_Inv : sample.Inv := by constructor <;> decide
theorem witness_Inv_fatal : (fatalAt 0x03).Inv := by constructor <;> decide
theorem witness_Inv_switchable : switchable.Inv := by constructor <;> decide

theorem witness_DecodeEncode : (Instr.unsupported 0xBB).wellFormed = true ∧ (Instr.ldaAbsolute 0xFFFF).wellFormed = true := by
  decide

theorem witness_EncodeDecode : decode [0xA9, 0x34, 0x99] = .ok (.ldaImmediate 0x34, [0x99]) := by decide

theorem witness_StepRunsDecoded :
    sample.ready ∧ deliverBoundary sample = sample ∧ sample.halted = none ∧ sample.nmiPending = false ∧
    (sample.irqLine && !sample.flags.i) = false ∧ decode [0xAD, 0x00, 0x02] = .ok (.ldaAbsolute 0x0200, []) ∧
    sample.supports (.ldaAbsolute 0x0200) = true ∧
    fetchBytes sample.pc (Instr.ldaAbsolute 0x0200).length sample = ([0xAD, 0x00, 0x02], sample) ∧
    (sample.peek (sample.pc + 0)).isSome = true ∧ (sample.peek (sample.pc + 1)).isSome = true ∧
    (sample.peek (sample.pc + 2)).isSome = true :=
  ⟨⟨rfl, rfl⟩, rfl, rfl, rfl, by decide, by decide, rfl, by decide, by decide, by decide, by decide⟩

theorem witness_UnsupportedHalts :
    (Instr.unsupported 0x02).status = .unsupported ∧ (Instr.laxZeroPage 0x10).status = .undocumented ∧
    ({ sample with params := { stackPolicy := .wrap, undocSet := false } } : State).params.undocSet = false := by decide

/-- A boundary that requests an NMI, one that raises the external line with `I` clear, one with `I` set, and a quiet one. -/
theorem witness_Arbitration :
    (deliverBoundary { sample with boundaries := [[.nmiRequest]] }).nmiPending = true ∧
    (let u := deliverBoundary { sample with boundaries := [[.extIrq true]] }
     u.nmiPending = false ∧ (u.apu.frameIrq || u.apu.dmcIrq || u.extIrq) = true ∧ u.flags.i = false) ∧
    (let u := deliverBoundary { sample with flags := { sample.flags with i := true }, boundaries := [[.extIrq true]] }
     u.nmiPending = false ∧ u.flags.i = true) ∧
    (sample.nmiPending = false ∧ (sample.apu.frameIrq || sample.apu.dmcIrq || sample.extIrq) = false) := by decide

/-- Three APU steps owed (OwedFirst's clause about `step`). -/
theorem witness_OwedFirst : ({ sample with apuOwed := 3 } : State).halted = none ∧
    ({ sample with apuOwed := 3 } : State).apuOwed ≠ 0 := by decide

/-- A halted machine, at a quiet boundary, at one that brings an NMI and at one that brings Reset. -/
def halted (events : List (List Event)) : State := { sample with
  boundaries := events
  halted := some { error := .unsupportedOpcode 0x02, pc := 0x8000, a := 0, x := 0, y := 0, sp := 0xFD, p := 0x24 } }

theorem witness_HaltedStuck :
    (halted []).halted.isSome = true ∧ (∀ events ∈ (halted []).boundaries.head?, Event.reset ∉ events) ∧
    (∀ events ∈ (halted [[.nmiRequest]]).boundaries.head?, Event.reset ∉ events) ∧
    (∃ events ∈ (halted [[.nmiRequest, .reset]]).boundaries.head?, Event.reset ∈ events) :=
  ⟨by decide, by decide, by decide, ⟨[.nmiRequest, .reset], by decide, by decide⟩⟩

theorem step_next_of_after {s : State} (h : (after [] s).isSome = true) : ∃ t, step s = .next t := by
  unfold after at h
  split at h
  · next t ht => exact ⟨t, ht⟩
  · exact absurd h (by decide)

/-- `sample` meets the hypotheses of InvKept, RomFixed and ApuKeepsPace together (its invariant is `witness_Inv`). -/
theorem witness_step_next : (∃ t, step sample = .next t) ∧
    (∀ events ∈ sample.boundaries.head?, Event.reset ∉ events) := ⟨step_next_of_after (by decide), by decide⟩

/-- So does a switchable board, on which RomFixed's clause about graphics ROM has its hypothesis met. -/
theorem witness_RomFixed_chr :
    ({ switchable with cart := { switchable.cart with chrIsRam := false } } : State).cart.chrIsRam = false ∧
    ∃ t, step { switchable with cart := { switchable.cart with chrIsRam := false } } = .next t :=
  ⟨rfl, step_next_of_after (by decide)⟩

theorem witness_ResetResult : sample.peek 0xFFFC = some 0x00 ∧ sample.peek 0xFFFD = some 0x80 := by decide

/-- A loader's deposit: a switchable board of two banks with its reset vector at the end of the last. -/
def deposit : Loaded := { Loaded.blank with
  variant := .switchable, prgLen := 0x8000, prg := (Memory.write [] 0x7FFC 0x00).write 0x7FFD 0x80 }

theorem witness_InvAtReset : Loaded.blank.Valid ∧ deposit.Valid ∧ (Memory.write [] 0x07FF 0x01).wf = true ∧
    (Memory.write [] 0x07FF 0x01).within 2048 = true :=
  ⟨by constructor <;> decide, by constructor <;> decide, by decide, by decide⟩

theorem witness_PowerOn : (Cart.load deposit).cpuRead 0xFFFC = some 0x00 ∧
    (Cart.load deposit).cpuRead 0xFFFD = some 0x80 ∧ (Cart.load Loaded.blank).cpuRead 0xFFFC = some 0x00 ∧
    (Cart.load Loaded.blank).cpuRead 0xFFFD = some 0x00 := by decide

/-- Room on the stack under either policy, and the vectors (InterruptEntry, InterruptReturn, BrkResult). -/
theorem witness_entry : sample.canPush 3 ∧ (fatalAt 0x03).canPush 3 ∧ ({ sample with sp := 0x00 } : State).canPush 3 ∧
    sample.peek 0xFFFA = some 0x00 ∧ sample.peek 0xFFFB = some 0x90 ∧ sample.peek 0xFFFE = some 0x00 ∧
    sample.peek 0xFFFF = some 0x91 := ⟨.inl rfl, .inr (by decide), .inl rfl, by decide, by decide, by decide, by decide⟩

theorem witness_canPush : (fatalAt 0x01).canPush 1 ∧ ({ sample with sp := 0x00 } : State).canPush 1 ∧
    (fatalAt 0x02).canPush 2 := ⟨.inr (by decide), .inl rfl, .inr (by decide)⟩

theorem witness_canPop : (fatalAt 0xFE).canPop 1 ∧ ({ sample with sp := 0xFF } : State).canPop 1 ∧
    (fatalAt 0xFD).canPop 2 ∧ (fatalAt 0xFC).canPop 3 :=
  ⟨.inr (by decide), .inl rfl, .inr (by decide), .inr (by decide)⟩

theorem witness_CallReturns : ∃ t, exec (.jsrAbsolute 0x9000) sample = .next t := ⟨_, rfl⟩

theorem witness_RamMirrors : (0x0000 : Word).toNat < 0x2000 ∧ (0x1FFF : Word).toNat < 0x2000 ∧
    (0x1800 : Word).toNat % 2048 = (0x0000 : Word).toNat % 2048 ∧ (0x1FFF : Word).toNat % 2048 ≠ (0x0000 : Word).toNat % 2048 := by
  decide

/-- The edges of the ranges that BusReads and BusWrites speak of. -/
theorem witness_bus_ranges :
    (0x1FFF : Word).toNat < 0x2000 ∧
    (0x2000 ≤ (0x2000 : Word).toNat ∧ (0x2000 : Word).toNat < 0x4000) ∧
    (0x2000 ≤ (0x3FFF : Word).toNat ∧ (0x3FFF : Word).toNat < 0x4000) ∧
    (0x4000 ≤ (0x4000 : Word).toNat ∧ (0x4014 : Word).toNat ≤ 0x4014) ∧
    (0x4015 : Word).toNat = 0x4015 ∧ (0x4016 : Word).toNat = 0x4016 ∧ (0x4017 : Word).toNat = 0x4017 ∧
    (0x4009 : Word).toNat = 0x4009 ∧ (0x400D : Word).toNat = 0x400D ∧
    (0x4018 ≤ (0x4018 : Word).toNat ∧ (0x5FFF : Word).toNat < 0x6000) ∧
    (0x6000 ≤ (0x6000 : Word).toNat ∧ (0x7FFF : Word).toNat < 0x8000) ∧
    0x8000 ≤ (0x8000 : Word).toNat ∧ 0x8000 ≤ (0xFFFF : Word).toNat := by decide

/-- A queue with an answer and an empty one, a board without battery RAM and a switchable one with it. -/
theorem witness_BusReads : ({ sample with portInputs := [0x80] } : State).portInputs = [0x80] ∧
    sample.portInputs = [] ∧
    ({ sample with cart := { sample.cart with hasPrgRam := false } } : State).cart.hasPrgRam = false ∧
    switchable.cart.hasPrgRam = true := ⟨rfl, rfl, rfl, rfl⟩

theorem witness_FixedBankReads : sample.cart.variant = .fixedBank ∧ sample.cart.hasPrgRam = true := ⟨rfl, rfl⟩

theorem witness_SwitchableWindows : switchable.cart.variant = .switchable ∧ 0x8000 ≤ (0xBFFF : Word).toNat ∧
    0x8000 ≤ (0xC000 : Word).toNat := by decide

theorem witness_SerialPort :
    switchable.cart.variant = .switchable ∧ switchable.cart.shift = 0 ∧ switchable.cart.count = 0 ∧
    (∀ a ∈ [(0x8000 : Word), 0x9FFF, 0xA000, 0xBFFF, 0xC000], 0x8000 ≤ a.toNat) ∧
    (∀ a ∈ [(0xDFFF : Word), 0xE000, 0xFFFF], 0x8000 ≤ a.toNat) ∧
    (∀ v ∈ [(0x00 : Byte), 0x01, 0x7F, 0x02, 0x03], v.toNat < 128) ∧ 128 ≤ (0x80 : Byte).toNat :=
  ⟨rfl, rfl, rfl, by simp, by simp, by simp, by decide⟩

theorem witness_EnvironmentEvents : sample.halted = none ∧ switchable.halted = none ∧ (halted []).halted ≠ none ∧
    Event.nmiRequest ≠ .reset := by decide

/-- Pointers off and on the end of a page, and their bytes (Read16Bug, JmpResult, IndirectModes). -/
theorem witness_pointers :
    (0x00FE : Word).toNat % 256 ≠ 255 ∧ (0x02FF : Word).toNat % 256 = 255 ∧ sample.peek 0x02FF = some 0x00 ∧
    sample.peek (BitVec.ofNat 16 ((0x02FF : Word).toNat / 256 * 256 + ((0x02FF : Word).toNat + 1) % 256)) = some 0x7F ∧
    sample.ram.read (((0xDE : Byte).toNat + sample.x.toNat) % 256) = 0x00 := by decide

theorem witness_SpriteDma : (List.replicate 256 (0 : Byte)).length = 256 ∧
    ∀ k : Nat, k < 256 → State.reset.peek (word 0x02 (BitVec.ofNat 8 k)) = some ((List.replicate 256 0).getD k 0) := by
  refine ⟨List.length_replicate, fun k hk => ?_⟩
  have h : (word 0x02 (BitVec.ofNat 8 k)).toNat < 0x2000 := by
    rw [word_toNat, BitVec.toNat_ofNat, show (0x02 : Byte).toNat = 2 from rfl]
    omega
  have h2 : (List.replicate 256 (0 : Byte)).getD k 0 = 0 := by
    rw [List.getD_eq_getElem?_getD, List.getElem?_replicate, if_pos hk]
    rfl
  rw [State.peek_eq, if_pos h, h2]
  rfl

/-- How many forms each list holds: as many rows as spec/opcode_table.json gives the mnemonic. -/
theorem witness_reading_forms (imm zp : Byte) (w : Word) :
    [ldaForms imm zp w, ldxForms imm zp w, ldyForms imm zp w, adcForms imm zp w, sbcForms imm zp w, cmpForms imm zp w,
      cpxForms imm zp w, cpyForms imm zp w, andForms imm zp w, oraForms imm zp w, eorForms imm zp w, bitForms zp w,
      laxForms zp w, nopReadForms imm zp w].map List.length = [8, 5, 5, 8, 9, 8, 3, 3, 8, 8, 8, 2, 6, 21] := rfl

theorem witness_storing_forms (zp : Byte) (w : Word) :
    [staForms zp w, stxForms zp w, styForms zp w, saxForms zp w, incForms zp w, decForms zp w, aslForms zp w,
      lsrForms zp w, rolForms zp w, rorForms zp w, dcpForms zp w, isbForms zp w, sloForms zp w, rlaForms zp w,
      sreForms zp w, rraForms zp w].map List.length = [7, 3, 3, 4, 4, 4, 4, 4, 4, 4, 7, 7, 7, 7, 7, 7] := rfl

/-- StoreResult, SbcResult, LaxNopResult, DcpIsbResult, ShiftCombineResult: the undocumented instructions are supported. -/
theorem witness_undocSet : sample.params.undocSet = true := rfl

/-- SignedOverflow, DecimalIgnored: ADC and SBC complete. -/
theorem witness_adc_next : (∃ t, exec (.adcImmediate 0x7F) sample = .next t) ∧
    ∃ t, exec (.sbcImmediate 0x7F) sample = .next t := ⟨⟨_, rfl⟩, ⟨_, rfl⟩⟩

/-- Room for none, one and two bytes; none, one and two bytes held. -/
theorem witness_StackExhaustion :
    (fatalAt 0x00).params.stackPolicy = .fatal ∧ (∀ sp ∈ [(0x00 : Byte), 0x01], (fatalAt sp).sp.toNat < 2) ∧
    (∀ sp ∈ [(0x00 : Byte), 0x01, 0x02], (fatalAt sp).sp.toNat < 3) ∧
    (∀ sp ∈ [(0xFF : Byte), 0xFE], 255 - (fatalAt sp).sp.toNat < 2) ∧
    (∀ sp ∈ [(0xFF : Byte), 0xFE, 0xFD], 255 - (fatalAt sp).sp.toNat < 3) := by decide

/-- NMI entry with room for one byte under the policy `fatal`: one byte pushed, the latch cleared, the machine halted (R64, R305). -/
theorem test_exhausted_entry :
    (let t := nmiEntry { fatalAt 0x01 with nmiPending := true }
     (t.sp, t.peek 0x0101, t.nmiPending, t.pc, t.halted.isSome)) = (0x00, some 0x80, false, 0x8000, true) := by decide

theorem witness_FrameSequencer : (3 : BitVec 3).toNat < frameSteps false ∧ (4 : BitVec 3).toNat < frameSteps true := by
  decide

/-- A reader with nothing left, one that still has bits, and one that fetches at 0x8000 or, as its last byte, at 0xFFFF. -/
theorem witness_DmcReader :
    sample.apu.dmc.bytesLeft = 0 ∧
    ({ sample.apu.dmc with bytesLeft := 2, bitsLeft := 1 } : Dmc).bitsLeft ≠ 0 ∧
    (let d : Dmc := { sample.apu.dmc with bytesLeft := 2, curAddr := 0x8000 }
     d.bytesLeft ≠ 0 ∧ d.bitsLeft = 0 ∧ sample.peek d.curAddr = some 0xAD) ∧
    (let d : Dmc := { sample.apu.dmc with bytesLeft := 1, curAddr := 0xFFFF, loop := true }
     d.bytesLeft ≠ 0 ∧ d.bitsLeft = 0 ∧ sample.peek d.curAddr = some 0x91) := by decide

theorem witness_ChannelClocks : ({ Envelope.powerOn with start := true } : Envelope).start = true ∧
    ({ Envelope.powerOn with divider := 15 } : Envelope).divider ≠ 0 ∧ Envelope.powerOn.start = false ∧
    Envelope.powerOn.divider = 0 := by decide

/-- A step on which each checkpoint falls. -/
theorem witness_ApuStep :
    (7457 + 0) * 240 / 1789773 ≠ (7457 + 0 + 1) * 240 / 1789773 ∧
    (40 + 0) * 44100 / 1789773 ≠ (40 + 0 + 1) * 44100 / 1789773 := by decide

/-- The port with four bits in it, before the fifth write. -/
theorem witness_SerialPort_fifth :
    (let c : Cart := { switchable.cart with shift := 0x0F, count := 4 }
     c.variant = .switchable ∧ c.count = 4) ∧ (0x8000 ≤ (0xA000 : Word).toNat) ∧ (0x7F : Byte).toNat < 128 := by decide

/-- An APU step on which the reader fetches 0xAD and the dmc counter fires on its first bit: the level rises by 2, the shift register
holds the other seven (R349, R353). -/
theorem test_apu_step_reader_first :
    (let d : Dmc := { sample.apu.dmc with bytesLeft := 2, curAddr := 0x8000 }
     let t := apuStep { sample with apu := { sample.apu with apuCycle := 1, dmc := d } }
     (t.apu.dmc.level, t.apu.dmc.shift, t.apu.dmc.bitsLeft, t.apu.dmc.curAddr, t.stall)) = (2, 0x56, 7, 0x8001, 4) := by
  decide

end Sys2Proof.Tests
end

section
/-! The whole-machine statements: the invariant at power-on and along every step, and what no step changes. -/

namespace Sys2Proof.Machine

/-! ## Every instruction ends a step -/

/-- What an instruction does is one CPU step: no arm of `exec` faults or is refused. The cases are the kinds of instruction, and
within a kind whether the operand's address is computed or read through a pointer; an effect writes registers and flags only. -/
theorem exec_endsStep (i : Instr) (s : State) : ∃ t, exec i s = .next t ∧ EndsStep s t := by
  cases i with refine ⟨_, rfl, ?_⟩
  | clc | cld | cli | clv | dex | dey | inx | iny | nop | sec | sed | sei | tax | tay | tsx | txa | txs | tya =>
    exact impliedStep_endsStep (fun _ => by exact rfl) (by decide) s
  | aslAccumulator | lsrAccumulator | rolAccumulator | rorAccumulator =>
    exact accumulatorStep_endsStep (fun _ _ _ => by exact rfl) (by decide) s
  | adcImmediate | andImmediate | cmpImmediate | cpxImmediate | cpyImmediate | eorImmediate | ldaImmediate |
    ldxImmediate | ldyImmediate | oraImmediate | sbcImmediate =>
    exact immediateStep_endsStep (fun _ _ => by exact rfl) _ (by decide) s
  | adcAbsolute | adcAbsoluteX | adcAbsoluteY | adcZeroPage | adcZeroPageX | andAbsolute | andAbsoluteX |
    andAbsoluteY | andZeroPage | andZeroPageX | bitAbsolute | bitZeroPage | cmpAbsolute | cmpAbsoluteX |
    cmpAbsoluteY | cmpZeroPage | cmpZeroPageX | cpxAbsolute | cpxZeroPage | cpyAbsolute | cpyZeroPage | eorAbsolute |
    eorAbsoluteX | eorAbsoluteY | eorZeroPage | eorZeroPageX | ldaAbsolute | ldaAbsoluteX | ldaAbsoluteY |
    ldaZeroPage | ldaZeroPageX | ldxAbsolute | ldxAbsoluteY | ldxZeroPage | ldxZeroPageY | ldyAbsolute |
    ldyAbsoluteX | ldyZeroPage | ldyZeroPageX | oraAbsolute | oraAbsoluteX | oraAbsoluteY | oraZeroPage |
    oraZeroPageX | sbcAbsolute | sbcAbsoluteX | sbcAbsoluteY | sbcZeroPage | sbcZeroPageX =>
    exact readStep_endsStep (fun _ _ => by exact rfl) (fun t => .refl t) _ _ (by decide) s
  | adcIndexedIndirect | adcIndirectIndexed | andIndexedIndirect | andIndirectIndexed | cmpIndexedIndirect |
    cmpIndirectIndexed | eorIndexedIndirect | eorIndirectIndexed | ldaIndexedIndirect | ldaIndirectIndexed |
    oraIndexedIndirect | oraIndirectIndexed | sbcIndexedIndirect | sbcIndirectIndexed =>
    exact readStep_endsStep (fun _ _ => by exact rfl) (fun t => read16Bug_keeps _ t) _ _ (by decide) s
  | staAbsolute | staAbsoluteX | staAbsoluteY | staZeroPage | staZeroPageX | stxAbsolute | stxZeroPage |
    stxZeroPageY | styAbsolute | styZeroPage | styZeroPageX =>
    exact storeStep_endsStep _ (fun t => .refl t) _ (by decide) s
  | staIndexedIndirect | staIndirectIndexed =>
    exact storeStep_endsStep _ (fun t => read16Bug_keeps _ t) _ (by decide) s
  | aslAbsolute | aslAbsoluteX | aslZeroPage | aslZeroPageX | decAbsolute | decAbsoluteX | decZeroPage |
    decZeroPageX | incAbsolute | incAbsoluteX | incZeroPage | incZeroPageX | lsrAbsolute | lsrAbsoluteX |
    lsrZeroPage | lsrZeroPageX | rolAbsolute | rolAbsoluteX | rolZeroPage | rolZeroPageX | rorAbsolute |
    rorAbsoluteX | rorZeroPage | rorZeroPageX =>
    exact modifyStep_endsStep _ (fun _ _ _ => by exact rfl) (fun t => .refl t) _ (by decide) s
  | nopImplied1A | nopImplied3A | nopImplied5A | nopImplied7A | nopImpliedDA | nopImpliedFA =>
    exact undocumented_endsStep (impliedStep_endsStep (fun _ => by exact rfl) (by decide) s)
  | nopImmediate80 | nopImmediate82 | nopImmediate89 | nopImmediateC2 | nopImmediateE2 | sbcImmediateEB =>
    exact undocumented_endsStep (immediateStep_endsStep (fun _ _ => by exact rfl) _ (by decide) s)
  | laxAbsolute | laxAbsoluteY | laxZeroPage | laxZeroPageY | nopAbsolute0C | nopAbsoluteX1C | nopAbsoluteX3C |
    nopAbsoluteX5C | nopAbsoluteX7C | nopAbsoluteXDC | nopAbsoluteXFC | nopZeroPage04 | nopZeroPage44 |
    nopZeroPage64 | nopZeroPageX14 | nopZeroPageX34 | nopZeroPageX54 | nopZeroPageX74 | nopZeroPageXD4 |
    nopZeroPageXF4 =>
    exact undocumented_endsStep (readStep_endsStep (fun _ _ => by exact rfl) (fun t => .refl t) _ _ (by decide) s)
  | laxIndexedIndirect | laxIndirectIndexed =>
    exact undocumented_endsStep (readStep_endsStep (fun _ _ => by exact rfl)
      (fun t => read16Bug_keeps _ t) _ _ (by decide) s)
  | saxAbsolute | saxZeroPage | saxZeroPageY =>
    exact undocumented_endsStep (storeStep_endsStep _ (fun t => .refl t) _ (by decide) s)
  | saxIndexedIndirect =>
    exact undocumented_endsStep (storeStep_endsStep _ (fun t => read16Bug_keeps _ t) _ (by decide) s)
  | dcpAbsolute | dcpAbsoluteX | dcpAbsoluteY | dcpZeroPage | dcpZeroPageX | isbAbsolute | isbAbsoluteX |
    isbAbsoluteY | isbZeroPage | isbZeroPageX | rlaAbsolute | rlaAbsoluteX | rlaAbsoluteY | rlaZeroPage |
    rlaZeroPageX | rraAbsolute | rraAbsoluteX | rraAbsoluteY | rraZeroPage | rraZeroPageX | sloAbsolute |
    sloAbsoluteX | sloAbsoluteY | sloZeroPage | sloZeroPageX | sreAbsolute | sreAbsoluteX | sreAbsoluteY |
    sreZeroPage | sreZeroPageX =>
    exact undocumented_endsStep (modifyStep_endsStep _ (fun _ _ _ => by exact rfl) (fun t => .refl t) _ (by decide) s)
  | dcpIndexedIndirect | dcpIndirectIndexed | isbIndexedIndirect | isbIndirectIndexed | rlaIndexedIndirect |
    rlaIndirectIndexed | rraIndexedIndirect | rraIndirectIndexed | sloIndexedIndirect | sloIndirectIndexed |
    sreIndexedIndirect | sreIndirectIndexed =>
    exact undocumented_endsStep (modifyStep_endsStep _ (fun _ _ _ => by exact rfl)
      (fun t => read16Bug_keeps _ t) _ (by decide) s)
  | bcc | bcs | beq | bmi | bne | bpl | bvc | bvs =>
    exact branchStep_endsStep _ _ s
  | pha | php =>
    exact .of (advance_keeps s 1) rfl (pushThen_endsStep (.finish 3 (.refl _) (by decide)))
  | pla | plp =>
    exact .of (advance_keeps s 1) rfl (popThen_endsStep (.finish 4 (RegistersOnly.keeps rfl) (by decide)))
  | jmpAbsolute =>
    exact .finish 3 (RegistersOnly.keeps rfl) (by decide)
  | jmpIndirect ptr =>
    exact .finish 5 (((advance_keeps s 3).trans (indirect_keeps ptr _)).trans (setPc_keeps _ _)) (by decide)
  | jsrAbsolute =>
    exact .of (advance_keeps s 3) rfl (pushThen_endsStep (pushThen_endsStep (.finish 6 (setPc_keeps _ _) (by decide))))
  | rts =>
    exact .of (advance_keeps s 1) rfl (popThen_endsStep (popThen_endsStep (.finish 6 (setPc_keeps _ _) (by decide))))
  | brk =>
    exact .of (advance_keeps s 1) rfl (enterInterrupt_endsStep _ _ _ _)
  | rti =>
    exact .of (advance_keeps s 1) rfl (returnFromInterrupt_endsStep _)
  | unsupported =>
    exact .raise _ s

/-- A CPU step that gives a next state ends a step and takes the APU steps it owes (R307, R386). -/
theorem cpuStep_next {s t : State} (h : cpuStep s = .next t) : ∃ u, EndsStep s u ∧ t = drainApu u := by
  unfold cpuStep at h
  split at h
  · cases h
  · split at h
    · cases h
      have clear : CpuKeeps s { s with nmiPending := false } :=
        ⟨⟨id, id, id, .refl _, rfl, rfl⟩, rfl, rfl, rfl, rfl⟩
      exact ⟨_, .of clear rfl (enterInterrupt_endsStep _ _ _ _), rfl⟩
    · split at h
      · cases h
        exact ⟨_, enterInterrupt_endsStep _ _ _ s, rfl⟩
      · obtain ⟨hk, he⟩ := fetchInstr_keeps s
        obtain ⟨u, hu, hend⟩ := exec_endsStep (fetchInstr s).1 (fetchInstr s).2
        unfold instrStep at h
        dsimp only at h
        rw [hu] at h
        cases h
        exact ⟨u, hend.of hk he, rfl⟩

/-! ## What a whole step keeps -/

/-- What every part of a step keeps: the parts of the invariant, what the loader fixed of the cartridge, the launch parameters,
and that no DMA cycle is left over. -/
structure StepKeeps (s t : State) : Prop where
  ram : RamInv s.ram → RamInv t.ram
  cart : CartInv s.cart → CartInv t.cart
  apu : ApuInv s.apu → ApuInv t.apu
  board : SameBoard s.cart t.cart
  params : t.params = s.params
  noExtra : s.extraCycles = 0 → t.extraCycles = 0

theorem StepKeeps.trans {s t u : State} (h : StepKeeps s t) (k : StepKeeps t u) : StepKeeps s u :=
  ⟨k.ram ∘ h.ram, k.cart ∘ h.cart, k.apu ∘ h.apu, h.board.trans k.board, k.params.trans h.params,
   k.noExtra ∘ h.noExtra⟩

theorem BoundaryKeeps.stepKeeps {s t : State} (h : BoundaryKeeps s t) : StepKeeps s t :=
  ⟨h.ram, h.cart, h.apu, h.board, h.params, h.extraCycles.trans⟩

theorem ApuKeeps.stepKeeps {s t : State} (h : ApuKeeps s t) : StepKeeps s t :=
  ⟨h.ram, h.cart, h.apu, h.board, h.params, h.extraCycles.trans⟩

/-- The end of a step clears the DMA cycles; a fatal error before it leaves them as they were. -/
theorem EndsStep.stepKeeps {s t : State} (h : EndsStep s t) : StepKeeps s t := by
  obtain ⟨u, k, ⟨n, -, rfl⟩ | ⟨he, e, rfl⟩⟩ := h
  · exact ⟨k.ram, k.cart, k.apu, k.board, k.params, fun _ => rfl⟩
  · exact ⟨k.ram, k.cart, k.apu, k.board, k.params, he.trans⟩

theorem drainApu_stepKeeps (s : State) : StepKeeps s (drainApu s) := (drainApu_keeps s).1.stepKeeps

/-- Every step keeps all that and owes no APU step at its end (R386). -/
theorem step_keeps {s t : State} (h : step s = .next t) : StepKeeps s t ∧ t.apuOwed = 0 := by
  rcases step_next h with ⟨-, -, rfl⟩ | ⟨-, hc⟩
  · exact ⟨drainApu_stepKeeps s, (drainApu_keeps s).2.2⟩
  · obtain ⟨u, hu, rfl⟩ := cpuStep_next hc
    have before := (deliverBoundary_keeps s).1.stepKeeps
    exact ⟨(before.trans hu.stepKeeps).trans (drainApu_stepKeeps u), (drainApu_keeps u).2.2⟩

/-! ## The invariant -/

theorem State.Inv.ramInv {s : State} (h : s.Inv) : RamInv s.ram := ⟨h.ramWf, h.ramWithin⟩

theorem State.Inv.cartInv {s : State} (h : s.Inv) : CartInv s.cart :=
  ⟨h.prgRamWf, h.prgRamWithin, h.prgWf, h.chrWf, h.serial⟩

theorem State.Inv.apuInv {s : State} (h : s.Inv) : ApuInv s.apu :=
  ⟨h.frameStep, h.lfsr, h.bitsLeft, h.sampleLen, h.bytesLeft⟩

/-- The invariant is kept by what keeps its parts and leaves nothing owed: what it says of program ROM's size and bank count is
about the board alone. -/
theorem StepKeeps.inv {s t : State} (k : StepKeeps s t) (ho : t.apuOwed = 0) (h : s.Inv) : t.Inv := by
  obtain ⟨ramWf, ramWithin⟩ := k.ram h.ramInv
  obtain ⟨prgRamWf, prgRamWithin, prgWf, chrWf, serial⟩ := k.cart h.cartInv
  obtain ⟨frameStep, lfsr, bitsLeft, sampleLen, bytesLeft⟩ := k.apu h.apuInv
  have prgWithin : t.cart.prg.within t.cart.prgLen = true := by rw [k.board.prg, k.board.prgLen]; exact h.prgWithin
  have prgNonempty : 0 < t.cart.prgLen := by rw [k.board.prgLen]; exact h.prgNonempty
  have banks : t.cart.nPrgBanks = t.cart.prgLen / 16384 := by rw [k.board.nPrgBanks, k.board.prgLen]; exact h.banks
  exact { ramWf, ramWithin, prgRamWf, prgRamWithin, prgWf, prgWithin, prgNonempty, banks, chrWf, serial, frameStep, lfsr
          bitsLeft, sampleLen, bytesLeft, settled := ho, noExtra := k.noExtra h.noExtra }

theorem Apu.powerOn_inv : ApuInv Apu.powerOn := ⟨by decide, by decide, by decide, by decide, by decide⟩

/-- A valid deposit and a canonical RAM make a powered-on machine with the invariant (R5, R36, R336). -/
theorem powerOn_inv {d : Loaded} {ram : Memory} (params : Params) (a x y : Byte) (hd : d.Valid) (hr : RamInv ram) :
    (powerOn d params a x y ram).Inv where
  ramWf := hr.wf
  ramWithin := hr.within
  prgRamWf := hd.prgRamWf
  prgRamWithin := hd.prgRamWithin
  prgWf := hd.prgWf
  prgWithin := hd.prgWithin
  prgNonempty := hd.prgNonempty
  banks := rfl
  chrWf := hd.chrWf
  serial := Nat.one_pos
  frameStep := Apu.powerOn_inv.frameStep
  lfsr := Apu.powerOn_inv.lfsr
  bitsLeft := Apu.powerOn_inv.bitsLeft
  sampleLen := Apu.powerOn_inv.sampleLen
  bytesLeft := Apu.powerOn_inv.bytesLeft
  settled := rfl
  noExtra := rfl

/-- And so does the first reset after it (R381). -/
theorem launch_inv {d : Loaded} {ram : Memory} (params : Params) (a x y : Byte) (hd : d.Valid) (hr : RamInv ram) :
    (launch d params a x y ram).Inv :=
  have k := resetProcedure_keeps (powerOn d params a x y ram)
  k.stepKeeps.inv k.owed (powerOn_inv params a x y hd hr)

theorem Loaded.blank_valid : Loaded.blank.Valid := ⟨by decide, rfl, rfl, rfl, rfl, rfl⟩

/-! ## Reset -/

/-- Reset where storage answers at the vector: every field (R380). -/
theorem resetProcedure_of_peek {s : State} {l h : Byte} (hl : s.peek 0xFFFC = some l) (hh : s.peek 0xFFFD = some h) :
    resetProcedure s = { s with
      pc := word h l, sp := 0xFD
      flags := { c := false, z := false, i := true, d := false, b := false, v := false, n := false }
      nmiPending := false, halted := none, stall := 0, cycles := 0 } := by
  have hv : read16 resetVector { s with flags := unpack resetP, sp := resetSp } =
      (word h l, { s with flags := unpack resetP, sp := resetSp }) := read16_of_peek hl hh
  unfold resetProcedure
  rw [hv]
  rfl

/-- Power-on and the first reset, the vector read from the cartridge, which answers it without a side effect (R380, R381). -/
theorem launch_of_cpuRead {d : Loaded} {l h : Byte} (hl : (Cart.load d).cpuRead 0xFFFC = some l)
    (hh : (Cart.load d).cpuRead 0xFFFD = some h) (params : Params) (a x y : Byte) (ram : Memory) :
    launch d params a x y ram =
      { State.reset with a := a, x := x, y := y, pc := word h l, ram := ram, cart := Cart.load d, params := params } :=
  resetProcedure_of_peek (s := powerOn d params a x y ram) hl hh

/-- `State.reset` is the launch of the blank deposit with zeros, whose vector reads 0x0000. -/
theorem reset_eq_launch_blank :
    State.reset = launch Loaded.blank { stackPolicy := .wrap, undocSet := true } 0 0 0 [] :=
  (launch_of_cpuRead (d := Loaded.blank) (l := 0) (h := 0) rfl rfl _ 0 0 0 []).symm

end Sys2Proof.Machine

open Sys2Proof Sys2Proof.Machine

/-- Settles O10: a step is made of parts that keep the invariant's parts, and it ends with nothing owed. -/
theorem invKept : Obligations.InvKept := by
  intro s t hi h
  obtain ⟨k, ho⟩ := step_keeps h
  exact k.inv ho hi

/-- Settles O11: each part of a step leaves the board and the parameters as they were. -/
theorem romFixed : Obligations.RomFixed := by
  intro s t h
  obtain ⟨k, -⟩ := step_keeps h
  obtain ⟨prg, prgLen, banks, variant, hasPrgRam, chrLen, chrIsRam, chr⟩ := k.board
  exact ⟨prg, prgLen, banks, variant, hasPrgRam, chrLen, chrIsRam, chr, k.params⟩

/-- Settles O9: power-on has the invariant and the first reset keeps it; `State.reset` is such a launch. -/
theorem invAtReset : Obligations.InvAtReset := by
  refine ⟨?_, fun d params a x y ram hd hwf hwithin => launch_inv params a x y hd ⟨hwf, hwithin⟩⟩
  rw [reset_eq_launch_blank]
  exact launch_inv _ 0 0 0 Loaded.blank_valid ⟨rfl, rfl⟩

/-- Settles O14: the reset procedure on the powered-on machine, its vector read from the cartridge. -/
theorem powerOn : Obligations.PowerOn := by
  refine ⟨?_, reset_eq_launch_blank⟩
  intro d params a x y ram l h cart envelope pulse hl hh
  exact launch_of_cpuRead hl hh params a x y ram
end

section
/-! Interrupt return and the environment's events: RTI on the bytes an entry pushed, and what each event does to the machine. -/

namespace Sys2Proof.Machine

/-! ## Return from an interrupt -/

/-- NMI entry, where the pushes are allowed and storage answers at the vector (R310). -/
theorem nmiEntry_of_canPush {s : State} {l h : Byte} (hc : s.canPush 3) (hl : s.peek 0xFFFA = some l)
    (hh : s.peek 0xFFFB = some h) :
    nmiEntry s = { s with
      nmiPending := false, pc := word h l, sp := s.sp - 3, flags := { s.flags with i := true }
      ram := pushedRam s.ram s.sp [hi s.pc, lo s.pc, statusOf false s.flags] }.counted (7 + s.extraCycles + s.stall) :=
  enterInterrupt_of_canPush (s := { s with nmiPending := false }) hc s.pc false nmiVector l h (by decide) (by decide) hl hh

/-- Where there was room for `n` pushes, as many pops are allowed after them (R64). -/
theorem canPop_of_canPush {s t : State} {n : Nat} (hc : s.canPush n) (hp : t.params = s.params)
    (hsp : t.sp = s.sp - BitVec.ofNat 8 n) : t.canPop n := by
  rcases hc with hwrap | hroom
  · exact .inl (by rw [hp, hwrap])
  · have := s.sp.isLt
    exact .inr (by rw [hsp, byte_sub_toNat hroom]; omega)

/-- Three bytes pushed are popped again, the last one first (R62, R63). -/
theorem stackByte_of_pushed_three {t : State} {m : Memory} {sp a b c : Byte} (hw : m.wf = true) (hsp : t.sp = sp - 3)
    (hr : t.ram = pushedRam m sp [a, b, c]) : t.stackByte 1 = c ∧ t.stackByte 2 = b ∧ t.stackByte 3 = a := by
  obtain ⟨first, second, third⟩ := pushedRam_read_three hw sp a b c
  have up1 : sp - 3 + BitVec.ofNat 8 1 = sp - 2 := by bv_omega
  have up2 : sp - 3 + BitVec.ofNat 8 2 = sp - 1 := by bv_omega
  have up3 : sp - 3 + BitVec.ofNat 8 3 = sp := by bv_omega
  simp only [stackByte_eq, hsp, hr, up1, up2, up3]
  exact ⟨third, second, first⟩

/-- The flags of a status byte are those it was made of, with its bit 4 for B (R24, R25). -/
theorem flagsOf_statusOf (b4 : Bool) (f : Flags) : flagsOf (statusOf b4 f) = { f with b := b4 } := by
  rw [← pack_eq, ← unpack_eq, unpack_pack]

/-- Returning from an interrupt takes back the word and the flags that the entry pushed, and its stack pointer (R254, R309). -/
theorem returnFromInterrupt_of_pushed {s t : State} {w : Word} {b4 : Bool} {f : Flags} (hw : s.ram.wf = true)
    (hc : s.canPush 3) (hp : t.params = s.params) (hsp : t.sp = s.sp - 3)
    (hr : t.ram = pushedRam s.ram s.sp [hi w, lo w, statusOf b4 f]) :
    returnFromInterrupt t =
      { t with pc := w, sp := s.sp, flags := { f with b := b4 } }.counted (6 + t.extraCycles + t.stall) := by
  obtain ⟨status, low, high⟩ := stackByte_of_pushed_three hw hsp hr
  have back : t.sp + 3 = s.sp := by rw [hsp]; exact BitVec.sub_add_cancel _ _
  rw [returnFromInterrupt_of_canPop (canPop_of_canPush hc hp hsp), status, low, high, back, word_hi_lo, flagsOf_statusOf]

/-- RTI moves past its one byte and returns from the interrupt (R254). -/
theorem exec_rti (s : State) : exec .rti s = .next (returnFromInterrupt (s.advance 1)) := rfl

/-! ## The cartridge's graphics side, in numbers -/

/-- The lower 4 KiB bank of an 8 KiB pair (R86). -/
theorem lowBank_toNat (k : BitVec 5) : (k &&& 0x1E).toNat = k.toNat / 2 * 2 := by
  revert k
  decide

/-- The upper 4 KiB bank of an 8 KiB pair (R86). -/
theorem highBank_toNat (k : BitVec 5) : (k ||| 0x01).toNat = k.toNat / 2 * 2 + 1 := by
  revert k
  decide

/-- The graphics mode is the control register's top bit (R84). -/
theorem Cart.graphicsMode_eq (c : Cart) : c.graphicsMode = !decide (c.control.toNat / 16 = 0) := by
  unfold Cart.graphicsMode
  generalize c.control = k
  revert k
  decide

/-- The 4 KiB graphics bank that the switchable board shows at a graphics address, before it is reduced modulo the bank count: one
of a pair, or one of its own for each half of the window (R86). -/
def Cart.chrBankAt (c : Cart) (a : BitVec 13) : Nat :=
  if c.control.toNat / 16 = 0 then
    (if 4096 ≤ a.toNat then c.chrBank0.toNat / 2 * 2 + 1 else c.chrBank0.toNat / 2 * 2)
  else if 4096 ≤ a.toNat then c.chrBank1.toNat
  else c.chrBank0.toNat

theorem Cart.chrOff_eq (c : Cart) (a : BitVec 13) :
    c.chrOff (decide (4096 ≤ a.toNat)) = c.chrBankAt a % max 1 (c.chrLen / 4096) * 4096 := by
  unfold Cart.chrOff Cart.chrBankAt
  rw [c.graphicsMode_eq, ← highBank_toNat, ← lowBank_toNat]
  by_cases pair : c.control.toNat / 16 = 0 <;> by_cases high : 4096 ≤ a.toNat <;>
    simp only [pair, high, decide_true, decide_false, Bool.not_true, Bool.not_false, Bool.false_eq_true, if_true, if_false] <;>
    rfl

/-- The index into graphics memory of a graphics address (R87). -/
theorem Cart.chrIndex_eq (c : Cart) (a : BitVec 13) :
    c.chrIndex a =
      if c.variant = .fixedBank then a.toNat % c.chrLen
      else (c.chrBankAt a % max 1 (c.chrLen / 4096) * 4096 + a.toNat % 4096) % c.chrLen := by
  unfold Cart.chrIndex
  rw [c.chrOff_eq]
  cases c.variant <;> rfl

/-- The nametable slots, a row for each mirroring (R76). -/
theorem nametableSlot_val (m : Mirroring) (i : Fin 4) :
    (nametableSlot m i).val =
      match m with
      | .horizontal => [0, 0, 1, 1].getD i.val 0
      | .vertical => [0, 1, 0, 1].getD i.val 0
      | .singleScreen0 => 0
      | .singleScreen1 => 1
      | .fourScreen => i.val := by
  revert i
  cases m <;> decide

/-! ## Events -/

/-- Reset reaches the machine, running or halted (R380, R384). -/
theorem deliverEvent_reset (s : State) : deliverEvent s .reset = resetProcedure s := by
  unfold deliverEvent
  rw [bne_self_eq_false, Bool.and_false]
  rfl

/-- A halted machine loses every other event (R300, R384). -/
theorem deliverEvent_of_halted {s : State} {e : Event} (hs : s.halted ≠ none) (he : e ≠ .reset) : deliverEvent s e = s := by
  unfold deliverEvent
  rw [Option.isSome_iff_ne_none.2 hs, bne_iff_ne.2 he]
  rfl

/-- On a machine that is not halted every event has its effect (R386). -/
theorem deliverEvent_of_running {s : State} (hs : s.halted = none) (e : Event) : deliverEvent s e = applyEvent e s := by
  unfold deliverEvent
  rw [hs]
  rfl

/-- A graphics write stores if graphics memory is RAM (R87). -/
theorem applyEvent_chrWrite (s : State) (a : BitVec 13) (v : Byte) :
    applyEvent (.chrWrite a v) s =
      if s.cart.chrIsRam = true then { s with cart := { s.cart with chr := s.cart.chr.write (s.cart.chrIndex a) v } } else s := by
  change ({ s with cart := s.cart.chrWrite a v } : State) = _
  unfold Cart.chrWrite
  split <;> rfl

end Sys2Proof.Machine

open Sys2Proof Sys2Proof.Machine

/-- Settles O16: RTI pops the three bytes that the entry pushed, which are all that the two changed in memory. -/
theorem interruptReturn : Obligations.InterruptReturn := by
  intro s hi hc
  obtain ⟨l, hl⟩ := peek_program s (a := 0xFFFA) (by decide)
  obtain ⟨h, hh⟩ := peek_program s (a := 0xFFFB) (by decide)
  rw [nmiEntry_of_canPush hc hl hh, exec_rti,
    returnFromInterrupt_of_pushed (w := s.pc) (b4 := false) (f := s.flags) hi.ramWf hc]
  · exact ⟨_, rfl, rfl, rfl, rfl, rfl, rfl, rfl, rfl, rfl, rfl, changedOnlyAt_pushed [_, _, _] rfl rfl⟩
  all_goals rfl

/-- Settles O17: Reset always reaches the machine, any other event only a running one, where it has its effect; the index into
graphics memory and the nametable slot are worked out in numbers. -/
theorem environmentEvents : Obligations.EnvironmentEvents := by
  refine ⟨deliverEvent_reset, fun s e => deliverEvent_of_halted, ?_⟩
  intro s level a v i hs c high bank index slot
  have hindex : c.chrIndex a = index := c.chrIndex_eq a
  simp only [deliverEvent_of_running hs]
  refine ⟨rfl, rfl, rfl, ?_, ?_, nametableSlot c.mirror i, nametableSlot_val c.mirror i, rfl⟩
  · rw [← hindex]
    rfl
  · rw [← hindex]
    exact applyEvent_chrWrite s a v
end

section
/-! The bus and the cartridge by address: what a read and a write of each part do, and the program windows and the serial port in
numbers. -/

namespace Sys2Proof.Machine

/-! ## Reads of each part of the bus -/

theorem region_graphics {a : Word} (low : 0x2000 ≤ a.toNat) (high : a.toNat < 0x4000) : region a = .graphics := by
  rw [region, if_neg (by omega), if_pos high]

theorem region_audio {a : Word} (low : 0x4000 ≤ a.toNat) (high : a.toNat < 0x4014) : region a = .audio := by
  rw [region, if_neg (by omega), if_neg (by omega), if_pos high]

theorem region_unmapped {a : Word} (low : 0x4018 ≤ a.toNat) (high : a.toNat < 0x6000) : region a = .unmapped := by
  rw [region, if_neg (by omega), if_neg (by omega), if_neg (by omega), if_neg (by omega), if_neg (by omega),
    if_neg (by omega), if_neg (by omega), if_pos high]

/-- A graphics-unit register by its mirror's address (R56). -/
theorem graphicsReg_eq (a : Word) : graphicsReg a = BitVec.ofNat 3 (a.toNat % 8) := by
  apply BitVec.eq_of_toNat_eq
  simp [graphicsReg]

theorem busRead_ram {a : Word} (s : State) (h : a.toNat < 0x2000) :
    busRead a s = (s.ram.read (a.toNat % 2048), s) := by
  unfold busRead
  rw [region_ram h]
  rfl

theorem busRead_graphics {a : Word} (s : State) (low : 0x2000 ≤ a.toNat) (high : a.toNat < 0x4000) :
    busRead a s = readPort (.ppuRead (BitVec.ofNat 3 (a.toNat % 8))) s := by
  unfold busRead
  rw [region_graphics low high, ← graphicsReg_eq]

/-- A port read gives the environment's answer `v` and records it, `t` being the state after the answer is taken (R56, R57). -/
theorem readPort_of_answer {s t : State} {v : Byte} (access : Byte → Output)
    (h : (∃ rest, s.portInputs = v :: rest ∧ t = { s with portInputs := rest }) ∨
      (s.portInputs = [] ∧ v = Config.portByte s.draws ∧ t = { s with draws := s.draws + 1 })) :
    readPort access s = (v, { t with outputs := access v :: s.outputs }) := by
  unfold readPort nextPortByte
  obtain ⟨rest, hq, rfl⟩ | ⟨hq, rfl, rfl⟩ := h
  · rw [hq]
    rfl
  · rw [hq]
    rfl

/-- No device drives write-only audio registers, 0x4014 and the unmapped addresses (R59). -/
theorem busRead_undriven {a : Word} (s : State)
    (h : (0x4000 ≤ a.toNat ∧ a.toNat ≤ 0x4014) ∨ (0x4018 ≤ a.toNat ∧ a.toNat < 0x6000)) :
    busRead a s = readOpenBus s := by
  unfold busRead
  obtain ⟨low, high⟩ | ⟨low, high⟩ := h
  · rcases Nat.lt_or_eq_of_le high with register | dma
    · rw [region_audio low register]
    · rw [show region a = .spriteDma by simp [region, dma]]
  · rw [region_unmapped low high]

/-- Battery RAM by offset, or open bus where the board has none (R59, R77, R80). -/
theorem busRead_prgRam {a : Word} (s : State) (low : 0x6000 ≤ a.toNat) (high : a.toNat < 0x8000) :
    busRead a s =
      if s.cart.hasPrgRam = true then (s.cart.prgRam.read (a.toNat - 0x6000), s) else readOpenBus s := by
  unfold busRead
  rw [region_cartridge low]
  dsimp only
  rw [Cart.cpuRead_low _ high, show a.toNat % 0x2000 = a.toNat - 0x6000 by omega]
  cases s.cart.hasPrgRam <;> rfl

/-- The program window gives a byte of program ROM, without a side effect (R67, R77, R80). -/
theorem busRead_program {a : Word} (s : State) (low : 0x8000 ≤ a.toNat) :
    busRead a s = (s.cart.prg.read (s.cart.prgIndex a), s) := by
  apply busRead_of_peek
  rw [State.peek_eq, if_neg (by omega), if_pos (by omega), Cart.cpuRead, if_neg (by omega)]

/-! ## Writes to each part of the bus -/

theorem busWrite_graphics {a : Word} (v : Byte) (s : State) (low : 0x2000 ≤ a.toNat) (high : a.toNat < 0x4000) :
    busWrite a v s = s.deliver (.ppuWrite (BitVec.ofNat 3 (a.toNat % 8)) v) := by
  unfold busWrite
  rw [region_graphics low high, ← graphicsReg_eq]

/-- A write that no device takes changes nothing: the two unused audio offsets and the unmapped addresses (R54, R59). -/
theorem busWrite_untaken {a : Word} (v : Byte) (s : State)
    (h : a.toNat = 0x4009 ∨ a.toNat = 0x400D ∨ (0x4018 ≤ a.toNat ∧ a.toNat < 0x6000)) : busWrite a v s = s := by
  rcases h with h | h | ⟨low, high⟩
  · obtain rfl : a = 0x4009 := BitVec.eq_of_toNat_eq h
    rfl
  · obtain rfl : a = 0x400D := BitVec.eq_of_toNat_eq h
    rfl
  · unfold busWrite
    rw [region_unmapped low high]

theorem busWrite_prgRam {a : Word} (v : Byte) (s : State) (low : 0x6000 ≤ a.toNat) (high : a.toNat < 0x8000) :
    busWrite a v s =
      if s.cart.hasPrgRam = true then
        { s with cart := { s.cart with prgRam := s.cart.prgRam.write (a.toNat - 0x6000) v } }
      else s := by
  rw [busWrite_cartridge v s low, Cart.cpuWrite, if_pos high, show a.toNat % 0x2000 = a.toNat - 0x6000 by omega]
  split <;> rfl

/-- Writes from 0x8000 on do nothing on a fixed-bank board (R78). -/
theorem busWrite_fixedBank {a : Word} (v : Byte) {s : State} (hv : s.cart.variant = .fixedBank) (low : 0x8000 ≤ a.toNat) :
    busWrite a v s = s := by
  rw [busWrite_cartridge v s (by omega), Cart.cpuWrite, if_neg (by omega), hv]

/-- On a switchable board they go to the serial port (R81). -/
theorem busWrite_switchable {a : Word} (v : Byte) {s : State} (hv : s.cart.variant = .switchable) (low : 0x8000 ≤ a.toNat) :
    busWrite a v s = { s with cart := s.cart.serialWrite a v } := by
  rw [busWrite_cartridge v s (by omega), Cart.cpuWrite, if_neg (by omega), hv]

/-! ## The program windows in numbers -/

theorem Cart.prgIndex_fixedBank {c : Cart} {a : Word} (hv : c.variant = .fixedBank) (low : 0x8000 ≤ a.toNat) :
    c.prgIndex a = (a.toNat - 0x8000) % c.prgLen := by
  have := a.isLt
  rw [Cart.prgIndex, hv]
  dsimp only
  rw [show a.toNat % 0x8000 = a.toNat - 0x8000 by omega]

theorem Cart.programMode_toNat (c : Cart) : c.programMode.toNat = c.control.toNat / 4 % 4 := by
  simp [Cart.programMode, BitVec.extractLsb'_toNat, Nat.shiftRight_eq_div_pow]

/-- The bank register's low four bits, and the two banks of the 32 KiB pair they name (R85). -/
theorem prgBank_toNat (k : BitVec 5) :
    (k.setWidth 4).toNat = k.toNat % 16 ∧ (k.setWidth 4 &&& 0xE).toNat = k.toNat % 16 / 2 * 2 ∧
      (k.setWidth 4 ||| 0x1).toNat = k.toNat % 16 / 2 * 2 + 1 := by
  revert k
  decide

/-- The 16 KiB program bank that the switchable board shows in the lower or the upper window, before it is reduced modulo the bank
count: first and switched in mode 2, switched and last in mode 3, else a switched pair (R84, R85). -/
def Cart.prgBankAt (c : Cart) (a : Word) : Nat :=
  if a.toNat < 0xC000 then
    (if c.control.toNat / 4 % 4 = 2 then 0
    else if c.control.toNat / 4 % 4 = 3 then c.prgBank.toNat % 16
    else c.prgBank.toNat % 16 / 2 * 2)
  else if c.control.toNat / 4 % 4 = 2 then c.prgBank.toNat % 16
  else if c.control.toNat / 4 % 4 = 3 then c.nPrgBanks - 1
  else c.prgBank.toNat % 16 / 2 * 2 + 1

theorem Cart.prgOff_eq (c : Cart) (a : Word) :
    c.prgOff (decide (0xC000 ≤ a.toNat)) = c.prgBankAt a % c.nPrgBanks * 0x4000 := by
  obtain ⟨single, even, odd⟩ := prgBank_toNat c.prgBank
  have mode2 : c.programMode = 2 ↔ c.control.toNat / 4 % 4 = 2 := by
    rw [← c.programMode_toNat, ← BitVec.toNat_inj]
    rfl
  have mode3 : c.programMode = 3 ↔ c.control.toNat / 4 % 4 = 3 := by
    rw [← c.programMode_toNat, ← BitVec.toNat_inj]
    rfl
  unfold Cart.prgOff Cart.prgBankAt Cart.bankOffset prgBankSize
  simp only [mode2, mode3, single, even, odd]
  by_cases high : 0xC000 ≤ a.toNat
  · rw [if_neg (Nat.not_lt.2 high), decide_eq_true high]
    simp only [if_true]
    split_ifs <;> rfl
  · rw [if_pos (Nat.lt_of_not_le high), decide_eq_false high]
    simp only [Bool.false_eq_true, if_false]
    split_ifs <;> rfl

theorem Cart.prgIndex_switchable {c : Cart} (hv : c.variant = .switchable) (a : Word) :
    c.prgIndex a = (c.prgBankAt a % c.nPrgBanks * 0x4000 + a.toNat % 0x4000) % c.prgLen := by
  rw [← c.prgOff_eq, Cart.prgIndex, hv]

/-! ## The serial port in numbers -/

/-- The mirroring by the control register's low two bits (R84). -/
theorem mirrorOfControl_eq (n : BitVec 5) :
    mirrorOfControl n =
      if n.toNat % 4 = 0 then .singleScreen0 else if n.toNat % 4 = 1 then .singleScreen1
      else if n.toNat % 4 = 2 then .vertical else .horizontal := by
  revert n
  decide

/-- The bit that write number `k` sets in the port (R82). -/
theorem serialBit_eq (v : Byte) (k : Fin 5) :
    (BitVec.ofBool (v.getLsbD 0)).setWidth 5 <<< k.val = BitVec.ofNat 5 (v.toNat % 2 * 2 ^ k.val) := by
  have bits : ∀ (b : Fin 2) (k : Fin 5),
      (BitVec.ofBool (decide (b.val = 1))).setWidth 5 <<< k.val = BitVec.ofNat 5 (b.val * 2 ^ k.val) := by decide
  rw [getLsbD_zero]
  exact bits ⟨v.toNat % 2, Nat.mod_lt _ (by decide)⟩ k

/-- The five bits of a full port spell its number, the first written lowest (R82, R88). -/
theorem serialBits_eq (b1 b2 b3 b4 b5 : Fin 2) :
    0#5 ||| BitVec.ofNat 5 (b1.val * 2 ^ 0) ||| BitVec.ofNat 5 (b2.val * 2 ^ 1) ||| BitVec.ofNat 5 (b3.val * 2 ^ 2) |||
        BitVec.ofNat 5 (b4.val * 2 ^ 3) ||| BitVec.ofNat 5 (b5.val * 2 ^ 4) =
      BitVec.ofNat 5 (b1.val + 2 * b2.val + 4 * b3.val + 8 * b4.val + 16 * b5.val) := by
  revert b1 b2 b3 b4 b5
  decide

/-- The cartridge after its port has committed `n` to the register that the fifth write's address selects (R83). -/
def Cart.committed (c : Cart) (a : Word) (n : BitVec 5) : Cart :=
  if a.toNat < 0xA000 then { c with control := n, mirror := mirrorOfControl n, shift := 0, count := 0 }
  else if a.toNat < 0xC000 then { c with chrBank0 := n, shift := 0, count := 0 }
  else if a.toNat < 0xE000 then { c with chrBank1 := n, shift := 0, count := 0 }
  else { c with prgBank := n, shift := 0, count := 0 }

theorem Cart.commit_eq (c : Cart) {a : Word} (low : 0x8000 ≤ a.toNat) (n : BitVec 5) :
    { c.commit a n with shift := 0, count := 0 } = c.committed a n := by
  have bit14 : a.getLsbD 14 = decide (0xC000 ≤ a.toNat) := by
    have := a.isLt
    rw [BitVec.getLsbD, Nat.testBit_eq_decide_div_mod_eq, decide_eq_decide]
    omega
  have bit13 : a.getLsbD 13 = decide (a.toNat / 0x2000 % 2 = 1) := by
    rw [BitVec.getLsbD, Nat.testBit_eq_decide_div_mod_eq]
  unfold Cart.commit Cart.committed
  split_ifs with first second third
  · rw [bit14, bit13, decide_eq_false (by omega), decide_eq_false (by omega)]
    rfl
  · rw [bit14, bit13, decide_eq_false (by omega), decide_eq_true (by omega)]
  · rw [bit14, bit13, decide_eq_true (by omega), decide_eq_false (by omega)]
  · rw [bit14, bit13, decide_eq_true (by omega), decide_eq_true (by omega)]

/-- A write with bit 7 clear sets the lowest unclaimed bit, and the fifth commits the port and clears it (R82). -/
theorem Cart.serialWrite_bit (c : Cart) {a : Word} {v : Byte} (low : 0x8000 ≤ a.toNat) (clear : v.toNat < 128) :
    c.serialWrite a v =
      let n := c.shift ||| BitVec.ofNat 5 (v.toNat % 2 * 2 ^ c.count.val)
      if c.count = 4 then c.committed a n else { c with shift := n, count := c.count + 1 } := by
  rw [Cart.serialWrite, getLsbD_seven, decide_eq_false (Nat.not_le.2 clear), serialBit_eq]
  dsimp only
  rw [Cart.commit_eq c low]
  rfl

/-- A write with bit 7 set clears the port and forces program mode 3 (R82). -/
theorem Cart.serialWrite_reset (c : Cart) (a : Word) {v : Byte} (set : 128 ≤ v.toNat) :
    c.serialWrite a v =
      { c with
        control := c.control ||| 0x0C, mirror := mirrorOfControl (c.control ||| 0x0C), shift := 0, count := 0 } := by
  rw [Cart.serialWrite, getLsbD_seven, decide_eq_true set]
  rfl

/-- `s` with `k` bits in its cartridge's serial port, which spell `n`. -/
def State.withPort (s : State) (n : BitVec 5) (k : Fin 5) : State :=
  { s with cart := { s.cart with shift := n, count := k } }

/-- One bit more in a port that is not full yet. -/
theorem busWrite_withPort {s t : State} {a : Word} {v : Byte} {n : BitVec 5} {k : Fin 5} (hv : s.cart.variant = .switchable)
    (low : 0x8000 ≤ a.toNat) (clear : v.toNat < 128) (ht : t = s.withPort n k) (hk : k ≠ 4) :
    busWrite a v t = s.withPort (n ||| BitVec.ofNat 5 (v.toNat % 2 * 2 ^ k.val)) (k + 1) := by
  subst ht
  rw [busWrite_switchable v (by exact hv) low, Cart.serialWrite_bit _ low clear]
  exact congrArg (fun c => { s with cart := c }) (if_neg hk)

/-- The fifth bit commits the port. -/
theorem busWrite_withPort_full {s t : State} {a : Word} {v : Byte} {n : BitVec 5} (hv : s.cart.variant = .switchable)
    (low : 0x8000 ≤ a.toNat) (clear : v.toNat < 128) (ht : t = s.withPort n 4) :
    busWrite a v t = { s with cart := s.cart.committed a (n ||| BitVec.ofNat 5 (v.toNat % 2 * 2 ^ 4)) } := by
  subst ht
  rw [busWrite_switchable v (by exact hv) low, Cart.serialWrite_bit _ low clear]
  exact congrArg (fun c => { s with cart := c }) (if_pos rfl)

end Sys2Proof.Machine

open Sys2Proof Sys2Proof.Machine

/-- Settles O18: a RAM write is a write of the cell that the address's mirrors share, and RAM is canonical under the invariant. -/
theorem ramMirrors : Obligations.RamMirrors := by
  intro s a b v hi ha hb
  rw [busRead_ram _ hb, busRead_ram _ hb, busWrite_ram v s ha]
  refine ⟨?_, rfl, rfl⟩
  split
  · next same => rw [same, Memory.read_write_self _ _ hi.ramWf]
  · next other => rw [Memory.read_write_other _ _ other]

/-- Settles O19: the rule of each part of the bus. -/
theorem busReads : Obligations.BusReads := by
  intro s a
  refine ⟨busRead_ram s, fun v t answer => ⟨fun low high => ?_, fun port => ?_, fun port => ?_⟩, fun status => ?_,
    fun undriven => ?_, fun low high present => ?_, fun low => ?_⟩
  · rw [busRead_graphics s low high, readPort_of_answer _ answer]
  · obtain rfl : a = 0x4016 := BitVec.eq_of_toNat_eq port
    exact readPort_of_answer _ answer
  · obtain rfl : a = 0x4017 := BitVec.eq_of_toNat_eq port
    exact readPort_of_answer _ answer
  · obtain rfl : a = 0x4015 := BitVec.eq_of_toNat_eq status
    rfl
  · obtain audio | unmapped | ⟨low, high, absent⟩ := undriven
    · exact busRead_undriven s (.inl audio)
    · exact busRead_undriven s (.inr unmapped)
    · rw [busRead_prgRam s low high, absent]
      rfl
  · rw [busRead_prgRam s low high, if_pos present]
  · obtain ⟨v, hv⟩ := peek_program s low
    rw [busRead_of_peek hv]
    exact ⟨rfl, hv⟩

/-- Settles O20: the rule of each part of the bus. -/
theorem busWrites : Obligations.BusWrites := by
  intro s a v
  refine ⟨busWrite_ram v s, busWrite_graphics v s, fun strobe => ?_, busWrite_untaken v s, busWrite_prgRam v s,
    fun low fixed => busWrite_fixedBank v fixed low⟩
  obtain rfl : a = 0x4016 := BitVec.eq_of_toNat_eq strobe
  rfl

/-- Settles O21: program ROM's index on a fixed-bank board, and the rule of battery RAM. -/
theorem fixedBankReads : Obligations.FixedBankReads := by
  intro s a fixed
  refine ⟨fun low => ?_, fun low high present => ?_, fun low high absent => ?_⟩
  · rw [busRead_program s low, Cart.prgIndex_fixedBank fixed low]
  · rw [busRead_prgRam s low high, if_pos present]
  · rw [busRead_prgRam s low high, absent]
    rfl

/-- Settles O22: program ROM's index on a switchable board, its bank worked out in numbers. -/
theorem switchableWindows : Obligations.SwitchableWindows := by
  intro s a switchable low b mode bank
  rw [busRead_program s low, Cart.prgIndex_switchable switchable]
  rfl

/-- Settles O23: each kind of write on the port, and five of them in a row, whose bits spell the number committed. -/
theorem serialPort : Obligations.SerialPort := by
  intro s hv mirrorOf c committed
  have hmirror (n : BitVec 5) : mirrorOfControl n = mirrorOf n := mirrorOfControl_eq n
  have hcommitted (a : Word) (n : BitVec 5) : s.cart.committed a n = committed a n := by
    rw [Cart.committed, hmirror]
  refine ⟨fun a v low clear => ?_, ?_, fun a v low set => ?_⟩
  · intro n
    rw [busWrite_switchable v hv low, Cart.serialWrite_bit _ low clear, ← hcommitted]
  · intro a1 a2 a3 a4 a5 v1 v2 v3 v4 v5 low clear shift count
    simp only [List.forall_mem_cons] at low clear
    obtain ⟨low1, low2, low3, low4, low5, -⟩ := low
    obtain ⟨clear1, clear2, clear3, clear4, clear5, -⟩ := clear
    have empty : s = s.withPort 0 0 := by rw [← shift, ← count]; rfl
    have one := busWrite_withPort hv low1 clear1 empty (by decide)
    have two := busWrite_withPort hv low2 clear2 one (by decide)
    have three := busWrite_withPort hv low3 clear3 two (by decide)
    have four := busWrite_withPort hv low4 clear4 three (by decide)
    rw [busWrite_withPort_full hv low5 clear5 four, ← hcommitted]
    have bit (v : Byte) : v.toNat % 2 < 2 := Nat.mod_lt _ (by decide)
    exact congrArg (fun n => { s with cart := s.cart.committed a5 n })
      (serialBits_eq ⟨_, bit v1⟩ ⟨_, bit v2⟩ ⟨_, bit v3⟩ ⟨_, bit v4⟩ ⟨_, bit v5⟩)
  · rw [busWrite_switchable v hv low, Cart.serialWrite_reset _ a set, hmirror]
end

section
/-! The pointer read that wraps within a page, and the sprite DMA. -/

namespace Sys2Proof.Machine

/-- But for a pointer that ends in 0xFF the two bytes are those of `Read16` (R66). -/
theorem bugAddr_eq_succ {p : Word} (h : p.toNat % 256 ≠ 255) : word (hi p) (lo p + 1) = p + 1 := by
  have := p.isLt
  rw [bugAddr_eq]
  apply BitVec.eq_of_toNat_eq
  rw [BitVec.toNat_add, BitVec.toNat_ofNat, show (1 : Word).toNat = 1 from rfl]
  omega

/-- `Read16Bug` of two bytes that storage answers (R66). -/
theorem read16Bug_of_peek {s : State} {p : Word} {l h : Byte} (hl : s.peek p = some l)
    (hh : s.peek (word (hi p) (lo p + 1)) = some h) : read16Bug p s = (word h l, s) := by
  unfold read16Bug
  simp only [busRead_of_peek hl, busRead_of_peek hh]

/-- The state before read `k` of a DMA from page `page` (R58). -/
def dmaState (page : Byte) (s : State) : Nat → State
  | 0 => s
  | k + 1 => (busRead (word page (BitVec.ofNat 8 k)) (dmaState page s k)).2

theorem dmaReads_eq (page : Byte) (s : State) (n : Nat) :
    dmaReads page 0 n s =
      ((List.range n).map fun k => (busRead (word page (BitVec.ofNat 8 k)) (dmaState page s k)).1, dmaState page s n) := by
  have chain := dmaReads_chain page n 0 (dmaState page s) (fun k _ => by rw [Nat.zero_add]; rfl)
  simp only [Nat.zero_add] at chain
  exact chain

/-- A DMA from a page that storage answers reads its bytes and has no side effect (R58). -/
theorem dmaReads_of_peek {page : Byte} {s : State} {bytes : List Byte}
    (h : ∀ k, k < bytes.length → s.peek (word page (BitVec.ofNat 8 k)) = some (bytes.getD k 0)) :
    dmaReads page 0 bytes.length s = (bytes, s) := by
  have read (k : Nat) (hk : k < bytes.length) : busRead (word page (BitVec.ofNat 8 k)) s = (bytes.getD k 0, s) :=
    busRead_of_peek (h k hk)
  have chain := dmaReads_chain page bytes.length 0 (fun _ => s) (fun k hk => by rw [Nat.zero_add, read k hk])
  rw [chain]
  congr 1
  apply List.ext_getElem
  · simp
  · intro k _ hk
    simp [read k hk, hk]

theorem dmaCycles_eq (cycles : Nat) : dmaCycles cycles = if cycles % 2 = 1 then 514 else 513 := by
  unfold dmaCycles
  split <;> omega

/-- A write to 0x4014 runs the DMA and counts its cycles (R58). -/
theorem busWrite_spriteDma (v : Byte) (s : State) :
    busWrite 0x4014 v s = { (dmaReads v 0 256 s).2 with
      outputs := .spriteDma (dmaReads v 0 256 s).1 :: (dmaReads v 0 256 s).2.outputs
      extraCycles := s.extraCycles + (if s.cycles % 2 = 1 then 514 else 513) } := by
  have extra : (dmaReads v 0 256 s).2.extraCycles = s.extraCycles := by
    have h := dmaReads_readsOnly v 256 0 s
    unfold ReadsOnly at h
    rw [h]
    rfl
  rw [← dmaCycles_eq, ← extra]
  rfl

/-- Where storage answers the page, the write to 0x4014 delivers its bytes and changes nothing else but the cycles (R58). -/
theorem busWrite_spriteDma_of_peek {v : Byte} {s : State} {bytes : List Byte} (length : bytes.length = 256)
    (h : ∀ k, k < 256 → s.peek (word v (BitVec.ofNat 8 k)) = some (bytes.getD k 0)) :
    busWrite 0x4014 v s = { s with
      outputs := .spriteDma bytes :: s.outputs
      extraCycles := s.extraCycles + (if s.cycles % 2 = 1 then 514 else 513) } := by
  have page : dmaReads v 0 256 s = (bytes, s) := by
    rw [← length] at h ⊢
    exact dmaReads_of_peek h
  rw [busWrite_spriteDma, page]

/-- STA to an absolute address moves past its three bytes and stores `A` there, 4 cycles (R153). -/
theorem exec_staAbsolute (w : Word) (s : State) :
    exec (.staAbsolute w) s = .next (finish 4 (busWrite w s.a (s.advance 3))) := rfl

end Sys2Proof.Machine

open Sys2Proof Sys2Proof.Machine

/-- Settles O24: the second address is the next one within the page, which is the next one at all unless the page ends. -/
theorem read16Bug : Obligations.Read16Bug := by
  intro s p next
  have hnext : word (hi p) (lo p + 1) = next := bugAddr_eq p
  refine ⟨?_, fun inside => ?_, fun l h hl hh => ?_⟩
  · rw [Machine.read16Bug, hnext]
  · rw [Machine.read16Bug, bugAddr_eq_succ inside]
    rfl
  · exact read16Bug_of_peek hl (by rw [hnext, hh])

/-- Settles O25: the DMA's reads run along the states between them; where storage answers those are all the same. -/
theorem spriteDma : Obligations.SpriteDma := by
  refine ⟨fun s v => ?_, fun s bytes length h => ?_⟩
  · refine ⟨dmaState v s, rfl, fun _ _ => rfl, ?_⟩
    rw [busWrite_spriteDma, dmaReads_eq]
  · have total (dma : Nat) : 4 + dma + s.extraCycles + s.stall = 4 + (s.extraCycles + dma) + s.stall := by omega
    rw [exec_staAbsolute, busWrite_spriteDma_of_peek (s := s.advance 3) length h, total]
    rfl
end

section
/-! The stack over whole instructions: a call and its return, and the instructions and entries that run out of stack. -/

namespace Sys2Proof.Machine

/-- JSR pushes the address of its own last byte (R230). -/
theorem exec_jsrAbsolute (w : Word) (s : State) :
    exec (.jsrAbsolute w) s = .next (push16Then (s.pc + 2) (fun t => finish 6 (t.setPc w)) (s.advance 3)) := rfl

/-- RTS pops a word and goes on one past it (R231). -/
theorem exec_rts (s : State) :
    exec .rts s = .next (pop16Then (fun w t => finish 6 (t.setPc (w + 1))) (s.advance 1)) := rfl

/-- BRK moves past its one byte and enters an interrupt that returns one byte further (R253, R312). -/
theorem exec_brk (s : State) :
    exec .brk s = .next (enterInterrupt (s.pc + 2) true irqVector (s.advance 1)) := rfl

/-- JSR, where the pushes are allowed (R230). -/
theorem exec_jsrAbsolute_of_canPush {s : State} (hc : s.canPush 2) (w : Word) :
    exec (.jsrAbsolute w) s = .next ({ s with
      pc := w, sp := s.sp - 2
      ram := pushedRam s.ram s.sp [hi (s.pc + 2), lo (s.pc + 2)] }.counted (6 + s.extraCycles + s.stall)) := by
  obtain ⟨pushes, -, pushed⟩ := push16Then_of_canPush (s := s.advance 3) (n := 0) hc (s.pc + 2)
    (fun t => finish 6 (t.setPc w))
  rw [exec_jsrAbsolute, pushes, pushed]
  rfl

/-- Two bytes pushed are popped again, the last one first (R62, R63). -/
theorem stackByte_of_pushed_two {t : State} {m : Memory} {sp a b : Byte} (hw : m.wf = true) (hsp : t.sp = sp - 2)
    (hr : t.ram = pushedRam m sp [a, b]) : t.stackByte 1 = b ∧ t.stackByte 2 = a := by
  obtain ⟨first, second⟩ := pushedRam_read_two hw sp a b
  have up1 : sp - 2 + BitVec.ofNat 8 1 = sp - 1 := by bv_omega
  have up2 : sp - 2 + BitVec.ofNat 8 2 = sp := by bv_omega
  simp only [stackByte_eq, hsp, hr, up1, up2]
  exact ⟨second, first⟩

/-- RTS on the word that a call pushed goes on one past it, with the call's stack pointer (R231). -/
theorem exec_rts_of_pushed {s t : State} {w : Word} (hw : s.ram.wf = true) (hc : s.canPush 2) (hp : t.params = s.params)
    (hsp : t.sp = s.sp - 2) (hr : t.ram = pushedRam s.ram s.sp [hi w, lo w]) :
    exec .rts t = .next ({ t with pc := w + 1, sp := s.sp }.counted (6 + t.extraCycles + t.stall)) := by
  have pops : (t.advance 1).canPop 2 := canPop_of_canPush hc hp hsp
  obtain ⟨low, high⟩ := stackByte_of_pushed_two (t := t.advance 1) hw hsp hr
  have back : (t.advance 1).sp + 2 = s.sp := by rw [State.advance, State.setPc_sp, hsp]; exact BitVec.sub_add_cancel _ _
  rw [exec_rts, pop16Then_of_canPop (n := 0) pops, low, high, back, word_hi_lo]
  rfl

/-- Returning from an interrupt where the stack holds fewer than three bytes: with at least one held the flags are taken from it
(R64, R254, R305). -/
theorem returnFromInterrupt_exhausted {s : State} (hp : s.params.stackPolicy = .fatal) (hr : 252 < s.sp.toNat) :
    returnFromInterrupt s =
      { s with sp := 0xFF, flags := if s.sp = 0xFF then s.flags else flagsOf (s.stackByte 1) }.exhausted := by
  unfold returnFromInterrupt
  by_cases empty : s.sp = 0xFF
  · rw [popThen_exhausted hp empty, if_pos empty, ← empty]
  · have held : s.sp.toNat ≠ 255 := fun top => empty (BitVec.eq_of_toNat_eq top)
    have := s.sp.isLt
    have up : 253 < (s.sp + 1).toNat := by
      rw [BitVec.toNat_add, show (1 : Byte).toNat = 1 from rfl]
      omega
    rw [popThen_of_canPop (n := 0) (.inr (by omega)), pop_eq, pop16Then_exhausted (by exact hp) (by exact up), if_neg empty]
    rfl

end Sys2Proof.Machine

open Sys2Proof Sys2Proof.Machine

/-- Settles O46: RTS pops the word that JSR pushed, which is all that the two changed in memory. -/
theorem callReturns : Obligations.CallReturns := by
  intro w s t hi hc ht
  rw [exec_jsrAbsolute_of_canPush hc] at ht
  injection ht with ht
  subst ht
  refine ⟨_, exec_rts_of_pushed (s := s) (w := s.pc + 2) hi.ramWf hc rfl rfl rfl, ?_, rfl, rfl, rfl, rfl, rfl,
    changedOnlyAt_pushed [_, _] rfl rfl⟩
  exact BitVec.add_assoc _ _ _

/-- Settles O50: a word pushed or popped, an entry and a return, each where the stack stops it. -/
theorem stackExhaustion : Obligations.StackExhaustion := by
  intro w s hp room held pushed
  refine ⟨fun two => ?_, fun three => ⟨?_, ?_, ?_⟩, fun two => ?_, fun three => ?_⟩
  · rw [exec_jsrAbsolute, push16Then_exhausted (by exact hp) (by exact two)]
    rfl
  · rw [exec_brk, enterInterrupt_exhausted (by exact hp) (by exact three)]
    rfl
  · rw [nmiEntry, enterInterrupt_exhausted (by exact hp) (by exact three)]
  · rw [irqEntry, enterInterrupt_exhausted hp three]
  · have few : 253 < s.sp.toNat := by omega
    rw [exec_rts, pop16Then_exhausted (by exact hp) (by exact few)]
    rfl
  · have few : 252 < s.sp.toNat := by omega
    have empty : s.sp = 0xFF ↔ held = 0 := by
      have := s.sp.isLt
      rw [← BitVec.toNat_inj, show (0xFF : Byte).toNat = 255 from rfl]
      omega
    rw [exec_rti, returnFromInterrupt_exhausted (by exact hp) (by exact few)]
    simp only [← empty]
    rfl
end

section
/-! Decoding and encoding: the opcode map a row at a time, what the decoder answers, and the round trips. -/

namespace Sys2Proof

open Sys2Proof.Laws

/-! ## What the opcode byte fixes -/

/-- The statement of Laws/PerInstr.lean, of every instruction (R110, R128). -/
theorem encoding_statement (i : Instr) : Encoding.Statement i := by
  cases i with
  | unsupported op => exact Encoding.unsupported op
  | _ =>
    refine Encoding.of_opcode _ rfl ?_ ?_ ?_
    all_goals dsimp only [encode, Instr.opcode, Instr.operandBytes]
    all_goals rfl

theorem operandBytes_length (i : Instr) : i.operandBytes.length = i.length - 1 := by
  rw [← (encoding_statement i).1, encode, List.length_cons, Nat.add_sub_cancel]

/-- Row `r` of the opcode bytes: those with high nibble `r` (R128). -/
def opcodeBytes (r : Nat) : List Byte := (List.range 16).map fun c => BitVec.ofNat 8 (16 * r + c)

theorem mem_opcodeBytes (op : Byte) : op ∈ opcodeBytes (op.toNat / 16) := by
  refine List.mem_map.2 ⟨op.toNat % 16, List.mem_range.2 (Nat.mod_lt _ (by decide)), ?_⟩
  rw [Nat.div_add_mod, BitVec.ofNat_toNat, BitVec.setWidth_eq]

/-- Two functions of the opcode byte agree once they agree along each row of the map. -/
theorem eq_of_opcodeBytes {α : Type} {f g : Byte → α}
    (rows : ∀ r : Fin 16, (opcodeBytes r).map f = (opcodeBytes r).map g) (op : Byte) : f op = g op :=
  List.map_inj_left.1 (rows ⟨op.toNat / 16, Nat.div_lt_of_lt_mul op.isLt⟩) op (mem_opcodeBytes op)

theorem instrOf_opcode (op l h : Byte) : (instrOf op l h).opcode = op := by
  refine eq_of_opcodeBytes (f := fun op => (instrOf op l h).opcode) (g := id) (fun r => ?_) op
  fin_cases r <;> rfl

theorem instrOf_wellFormed (op l h : Byte) : (instrOf op l h).wellFormed = true := by
  refine eq_of_opcodeBytes (f := fun op => (instrOf op l h).wellFormed) (g := fun _ => true) (fun r => ?_) op
  fin_cases r <;> rfl

/-- Whatever its operand, the instruction of an opcode byte has the class and the length that the byte fixes (R128). -/
theorem instrOf_class (op l h : Byte) :
    (instrOf op 0 0).status = (instrOf op l h).status ∧ (instrOf op 0 0).length = (instrOf op l h).length := by
  have fixed := (encoding_statement (instrOf op l h)).2 (instrOf_wellFormed op l h)
  rwa [instrOf_opcode] at fixed

/-- The operand bytes of an instruction of length `n` with the bytes `l` and `h` after its opcode, a 16-bit operand's taken from the
operand (R110, R119). -/
def operandBytesOf (n : Nat) (l h : Byte) : List Byte :=
  match n with
  | 1 => []
  | 2 => [l]
  | _ => [operandLo (operandWord l h), operandHi (operandWord l h)]

theorem operandBytesOf_eq_take {n : Nat} (low : 1 ≤ n) (high : n ≤ 3) (l h : Byte) :
    operandBytesOf n l h = [l, h].take (n - 1) := by
  obtain rfl | rfl | rfl : n = 1 ∨ n = 2 ∨ n = 3 := by omega
  · rfl
  · rfl
  · change [operandLo (operandWord l h), operandHi (operandWord l h)] = [l, h]
    rw [operandLo_operandWord, operandHi_operandWord]

/-- The operand bytes of the instruction decoded are the bytes it was decoded from. -/
theorem instrOf_operandBytes (op l h : Byte) :
    (instrOf op l h).operandBytes = [l, h].take ((instrOf op l h).length - 1) := by
  obtain ⟨low, high⟩ := (instrOf op l h).length_range
  rw [← operandBytesOf_eq_take low high]
  refine eq_of_opcodeBytes (f := fun op => (instrOf op l h).operandBytes)
    (g := fun op => operandBytesOf (instrOf op l h).length l h) (fun r => ?_) op
  fin_cases r <;> rfl

/-! ## What the encoding fixes -/

theorem instrOf_unsupported {op : Byte} (known : op ∈ unsupportedOpcodes) (l h : Byte) :
    instrOf op l h = .unsupported op :=
  List.map_inj_left.1
    (show unsupportedOpcodes.map (instrOf · l h) = unsupportedOpcodes.map Instr.unsupported from rfl) op known

/-- A well-formed instruction is the one that the map has for its opcode and operand bytes, whatever follows them. The cases differ
in the operand: none or a byte, which the map takes as it stands; a word, put together from its two bytes. -/
theorem instrOf_operands {i : Instr} (hw : i.wellFormed = true) (rest : List Byte) :
    instrOf i.opcode ((i.operandBytes ++ rest).getD 0 0) ((i.operandBytes ++ rest).getD 1 0) = i := by
  cases i with dsimp only [Instr.opcode, Instr.operandBytes]
  | unsupported op => exact instrOf_unsupported (List.contains_iff_mem.1 hw) _ _
  | adcAbsolute | adcAbsoluteX | adcAbsoluteY | andAbsolute | andAbsoluteX | andAbsoluteY |
    aslAbsolute | aslAbsoluteX | bitAbsolute | cmpAbsolute | cmpAbsoluteX | cmpAbsoluteY |
    cpxAbsolute | cpyAbsolute | dcpAbsolute | dcpAbsoluteX | dcpAbsoluteY | decAbsolute |
    decAbsoluteX | eorAbsolute | eorAbsoluteX | eorAbsoluteY | incAbsolute | incAbsoluteX |
    isbAbsolute | isbAbsoluteX | isbAbsoluteY | jmpAbsolute | jmpIndirect | jsrAbsolute |
    laxAbsolute | laxAbsoluteY | ldaAbsolute | ldaAbsoluteX | ldaAbsoluteY | ldxAbsolute |
    ldxAbsoluteY | ldyAbsolute | ldyAbsoluteX | lsrAbsolute | lsrAbsoluteX | nopAbsolute0C |
    nopAbsoluteX1C | nopAbsoluteX3C | nopAbsoluteX5C | nopAbsoluteX7C | nopAbsoluteXDC |
    nopAbsoluteXFC | oraAbsolute | oraAbsoluteX | oraAbsoluteY | rlaAbsolute | rlaAbsoluteX |
    rlaAbsoluteY | rolAbsolute | rolAbsoluteX | rorAbsolute | rorAbsoluteX | rraAbsolute |
    rraAbsoluteX | rraAbsoluteY | saxAbsolute | sbcAbsolute | sbcAbsoluteX | sbcAbsoluteY |
    sloAbsolute | sloAbsoluteX | sloAbsoluteY | sreAbsolute | sreAbsoluteX | sreAbsoluteY |
    staAbsolute | staAbsoluteX | staAbsoluteY | stxAbsolute | styAbsolute =>
    exact congrArg _ (operandWord_parts _)
  | _ => rfl

/-! ## The decoder -/

/-- What the decoder accepts: an opcode byte and at least the operand bytes of the instruction it selects (R110). -/
theorem decode_eq_ok {bytes rest : List Byte} {i : Instr} :
    decode bytes = .ok (i, rest) ↔
      ∃ op tail, bytes = op :: tail ∧ instrOf op (tail.getD 0 0) (tail.getD 1 0) = i ∧
        i.length ≤ tail.length + 1 ∧ tail.drop (i.length - 1) = rest := by
  cases bytes with
  | nil => exact ⟨nofun, nofun⟩
  | cons op tail =>
    rw [decode]
    constructor
    · intro hd
      split at hd
      · cases hd
      · next enough =>
        cases hd
        exact ⟨op, tail, rfl, rfl, Nat.le_of_not_lt enough, rfl⟩
    · rintro ⟨_, _, bytes, rfl, enough, rfl⟩
      cases bytes
      exact if_neg (Nat.not_lt_of_le enough)

/-- The next two bytes, as the decoder takes them, are those of the tail as far as it goes. -/
theorem take_getD {tail : List Byte} {k : Nat} (two : k ≤ 2) (enough : k ≤ tail.length) :
    [tail.getD 0 0, tail.getD 1 0].take k = tail.take k :=
  match k, tail with
  | 0, _ => rfl
  | 1, _ :: _ => rfl
  | 2, _ :: _ :: _ => rfl

/-- Decoding an encoding gives the instruction back. -/
theorem decode_encode {i : Instr} (hw : i.wellFormed = true) (rest : List Byte) :
    decode (encode i ++ rest) = .ok (i, rest) := by
  have length := operandBytes_length i
  refine decode_eq_ok.2 ⟨i.opcode, i.operandBytes ++ rest, rfl, instrOf_operands hw rest, ?_, List.drop_left' length⟩
  rw [List.length_append]
  omega

/-- Whatever decodes is the encoding of a well-formed instruction. -/
theorem encode_of_decode {bytes rest : List Byte} {i : Instr} (hd : decode bytes = .ok (i, rest)) :
    i.wellFormed = true ∧ encode i ++ rest = bytes := by
  obtain ⟨op, tail, rfl, rfl, enough, rfl⟩ := decode_eq_ok.1 hd
  have high := (instrOf op (tail.getD 0 0) (tail.getD 1 0)).length_range.2
  refine ⟨instrOf_wellFormed _ _ _, ?_⟩
  rw [encode, instrOf_opcode, instrOf_operandBytes, take_getD (by omega) (by omega), List.cons_append, List.take_append_drop]

/-- Three bytes always decode. -/
theorem decode_three (op l h : Byte) (rest : List Byte) :
    decode (op :: l :: h :: rest) =
      .ok (instrOf op l h, (op :: l :: h :: rest).drop (instrOf op l h).length) := by
  obtain ⟨low, high⟩ := (instrOf op l h).length_range
  refine decode_eq_ok.2 ⟨op, l :: h :: rest, rfl, rfl, ?_, ?_⟩
  · simp only [List.length_cons]
    omega
  · obtain ⟨n, hn⟩ := Nat.exists_eq_add_of_le' low
    rw [hn, Nat.add_sub_cancel, List.drop_succ_cons]

/-- An instruction with a 16-bit operand decodes from its opcode and the operand's bytes, the low byte first (R50, R119). -/
theorem decode_encode_word {i : Word → Instr} {op : Byte} (he : ∀ w, encode (i w) = [op, operandLo w, operandHi w])
    (hw : ∀ w, (i w).wellFormed = true) (l h : Byte) (rest : List Byte) :
    decode (op :: l :: h :: rest) = .ok (i (h ++ l), rest) := by
  have back := decode_encode (hw (operandWord l h)) rest
  rwa [he, operandLo_operandWord, operandHi_operandWord] at back

end Sys2Proof

open Sys2Proof

/-- Settles O1: the map has the instruction at its opcode, and takes its operand from the bytes after it. -/
theorem decodeEncode : Obligations.DecodeEncode := fun _ rest hw => decode_encode hw rest

/-- Settles O2: the instruction decoded has the opcode and the operand bytes it was decoded from, and an instruction's class and
length are its opcode's. -/
theorem encodeDecode : Obligations.EncodeDecode := by
  refine ⟨fun _ _ _ => encode_of_decode, fun op l h rest => ?_⟩
  obtain ⟨low, high⟩ := (instrOf op l h).length_range
  exact ⟨instrOf op l h, instrOf_opcode op l h, (instrOf_class op l h).2.symm, low, high, decode_three op l h rest⟩

/-- Settles O3: each word is an encoding, so that it decodes to what it encodes. -/
theorem decodeWords : Obligations.DecodeWords := by
  intro l h rest
  exact ⟨decode_encode (i := .ldaImmediate l) rfl rest, decode_encode (i := .stxZeroPageY l) rfl rest,
    decode_encode (i := .txs) rfl rest, decode_encode (i := .adcIndirectIndexed l) rfl rest,
    decode_encode_word (i := .rorAbsoluteX) (fun _ => rfl) (fun _ => rfl) l h rest,
    decode_encode_word (i := .jmpIndirect) (fun _ => rfl) (fun _ => rfl) l h rest,
    decode_encode (i := .rti) rfl rest, decode_encode (i := .isbIndexedIndirect l) rfl rest,
    decode_encode (i := .unsupported 0x02) rfl rest⟩
end

section
/-! The addressing modes: the addresses they compute, in numbers, and the pointers they read. -/

namespace Sys2Proof.Machine

/-- An index into page 0 wraps there (R117, R118). -/
theorem zext16_add (zp index : Byte) : zext16 (zp + index) = BitVec.ofNat 16 ((zp.toNat + index.toNat) % 256) := by
  rw [zext16_eq, BitVec.toNat_add]

/-- An indexed address wraps in 16 bits, and its page is compared with the base's (R120, R121, R126). -/
theorem indexed_resolved (base : Word) (index : Byte) (s : State) :
    let ea : Word := BitVec.ofNat 16 ((base.toNat + index.toNat) % 65536)
    indexed base index s = { ea := ea, crossed := decide (ea.toNat / 256 ≠ base.toNat / 256), state := s } := by
  rw [indexed, pageCross_eq, indexed_eq]

/-- A branch target, and its page compared with that of the post-fetch `PC` (R125, R126). -/
theorem relative_resolved (off : Byte) (s : State) :
    let ea : Word := BitVec.ofInt 16 (s.pc.toNat + off.toInt)
    relative off s = { ea := ea, crossed := decide (ea.toNat / 256 ≠ s.pc.toNat / 256), state := s } := by
  rw [relative, pageCross_eq, target_eq]

/-- The high byte of a pointer in page 0 lies in page 0 (R66). -/
theorem bugAddr_zeroPage (b : Byte) : word (hi (zext16 b)) (lo (zext16 b) + 1) = zext16 (b + 1) := by
  have := b.isLt
  rw [bugAddr_eq, zext16_toNat, zext16_add, Nat.div_eq_of_lt this, Nat.zero_mul, Nat.zero_add]
  rfl

/-- A pointer in page 0 is read from RAM, without a side effect (R66, R123, R124). -/
theorem read16Bug_zeroPage (b : Byte) (s : State) :
    read16Bug (zext16 b) s = (word (s.ram.read ((b.toNat + 1) % 256)) (s.ram.read b.toNat), s) := by
  have next : (b + 1).toNat = (b.toNat + 1) % 256 := BitVec.toNat_add b 1
  rw [← next]
  exact read16Bug_of_peek (peek_zeroPage s b) (by rw [bugAddr_zeroPage, peek_zeroPage])

theorem word_page (h l : Byte) : (word h l).toNat / 256 = h.toNat := by
  have := l.isLt
  rw [word_toNat]
  omega

end Sys2Proof.Machine

open Sys2Proof Sys2Proof.Machine

/-- Settles O26: the addresses computed, in numbers. -/
theorem directModes : Obligations.DirectModes := by
  intro zp off w s
  refine ⟨?_, ?_, ?_, rfl, indexed_resolved w s.x s, indexed_resolved w s.y s, relative_resolved off s, rfl⟩
  · rw [zeroPage, zext16_eq]
  · rw [zeroPageX, zext16_add]
  · rw [zeroPageY, zext16_add]

/-- Settles O27: the pointers read, in page 0 from RAM. -/
theorem indirectModes : Obligations.IndirectModes := by
  intro zp p s l h
  refine ⟨rfl, fun low high => ?_, fun low high => ?_, fun low high => ?_, rfl⟩
  · rw [indirect, read16Bug_of_peek low (by rw [bugAddr_eq, high])]
  · have cell : (zp + s.x).toNat = (zp.toNat + s.x.toNat) % 256 := BitVec.toNat_add zp s.x
    rw [indexedIndirect, read16Bug_zeroPage, cell, Nat.mod_add_mod, low, high]
  · rw [indirectIndexed, read16Bug_zeroPage, low, high, ← word_page h l]
    exact indexed_resolved (word h l) s.y s
end

section
/-! The step at a boundary: the fetch of a decoded instruction, and the opcodes that have no handler. -/

namespace Sys2Proof.Machine

/-! ## The fetch -/

/-- Whether an opcode has a handler depends on its class and on the parameters (R131, R265). -/
theorem supports_congr {s t : State} {i j : Instr} (params : t.params = s.params) (status : j.status = i.status) :
    t.supports j = s.supports i := by
  unfold State.supports
  rw [params, status]

/-- Of an instruction that the machine supports all bytes are fetched, whatever its operand (R110, R112). -/
theorem fetchLength_of_supports {s t : State} {op l h : Byte} (params : t.params = s.params)
    (supported : s.supports (instrOf op l h) = true) : fetchLength t op = (instrOf op l h).length := by
  obtain ⟨status, length⟩ := instrOf_class op l h
  rw [fetchLength, supports_congr params status, supported, if_pos rfl, length]

/-- The fetch gives the instruction that the bytes at `PC` decode to, and the state after they are read (R112). -/
theorem fetchInstr_of_decode {s t : State} {i : Instr} {bytes : List Byte} (hd : decode bytes = .ok (i, []))
    (supported : s.supports i = true) (hf : fetchBytes s.pc i.length s = (bytes, t)) : fetchInstr s = (i, t) := by
  obtain ⟨op, tail, rfl, rfl, -, -⟩ := decode_eq_ok.1 hd
  obtain ⟨n, hn⟩ := Nat.exists_eq_add_of_le' (instrOf op (tail.getD 0 0) (tail.getD 1 0)).length_range.1
  rw [hn, fetchBytes, Prod.mk.injEq, List.cons.injEq] at hf
  obtain ⟨⟨rfl, rfl⟩, rfl⟩ := hf
  rw [fetchInstr, fetchLength_of_supports (busRead_keeps s.pc s).params supported, hn]
  rfl

/-- Bytes that storage answers are fetched without a side effect (R112). -/
theorem fetchBytes_of_peek {s : State} {a : Word} {n : Nat}
    (answered : ∀ k : Nat, k < n → (s.peek (a + BitVec.ofNat 16 k)).isSome = true) : (fetchBytes a n s).2 = s := by
  induction n generalizing a with
  | zero => rfl
  | succ n ih =>
    have first := answered 0 (Nat.succ_pos n)
    rw [show a + BitVec.ofNat 16 0 = a from BitVec.add_zero a] at first
    obtain ⟨v, hv⟩ := Option.isSome_iff_exists.1 first
    have later : ∀ k : Nat, k < n → (s.peek (a + 1 + BitVec.ofNat 16 k)).isSome = true := by
      intro k hk
      have := answered (k + 1) (Nat.succ_lt_succ hk)
      rwa [Nat.add_comm, BitVec.ofNat_add, ← BitVec.add_assoc] at this
    rw [fetchBytes, busRead_of_peek hv]
    exact ih later

/-! ## The boundary -/

/-- A ready machine's step is the CPU step that the boundary's events leave enabled (R386). -/
theorem step_of_ready {s : State} (h : s.ready) : step s = cpuStep (deliverBoundary s) := by
  rw [step, h.1, h.2]
  rfl

/-- Where no interrupt is taken the CPU step is an instruction (R307). -/
theorem cpuStep_of_no_interrupt {s : State} (running : s.halted = none) (noNmi : s.nmiPending = false)
    (noIrq : (s.irqLine && !s.flags.i) = false) : cpuStep s = instrStep s := by
  rw [cpuStep, running, noNmi, noIrq]
  rfl

/-- The CPU step of a fetched instruction is its meaning and then the APU steps it owes (R112, R386). -/
theorem instrStep_of_next {s t u : State} {i : Instr} (fetched : fetchInstr s = (i, t)) (next : exec i t = .next u) :
    instrStep s = .next (drainApu u) := by
  have meaning : exec (fetchInstr s).1 (fetchInstr s).2 = .next u := by rw [fetched, next]
  unfold instrStep
  dsimp only
  rw [meaning]

/-! ## Opcodes with no handler -/

/-- The record of a fatal error is of the registers as they are (R300). -/
theorem raiseFatal_eq (e : FatalError) (s : State) :
    raiseFatal e s = { s with
      halted := some { error := e, pc := s.pc, a := s.a, x := s.x, y := s.y, sp := s.sp, p := statusOf s.flags.b s.flags } } := by
  rw [raiseFatal, State.p, pack_eq]

theorem undocumented_of_empty {s : State} (off : s.params.undocSet = false) (op : Byte) (f : State → State) :
    undocumented op f s = raiseFatal (.unsupportedOpcode op) s := by
  rw [undocumented, off]
  rfl

/-- The constructor `unsupported` has the class of its name, and no other does (R131). -/
theorem eq_unsupported_of_status {i : Instr} (status : i.status = .unsupported) : i = .unsupported i.opcode := by
  cases i with
  | unsupported op => rfl
  | _ => cases status

/-- An undocumented instruction raises the error where `UNDOC_SET` is empty: its meaning is `undocumented` of its opcode (R265). -/
theorem exec_undocumented_of_empty {i : Instr} {s : State} (status : i.status = .undocumented)
    (off : s.params.undocSet = false) : exec i s = .next (raiseFatal (.unsupportedOpcode i.opcode) s) := by
  cases i with cases status
  | _ => exact congrArg _ (undocumented_of_empty off _ _)

end Sys2Proof.Machine

open Sys2Proof Sys2Proof.Machine

/-- Settles O4: the fetch gives the decoded instruction, whose meaning is a next state, and no interrupt comes before it. -/
theorem stepRunsDecoded : Obligations.StepRunsDecoded := by
  intro s u v i bytes ready boundary running noNmi noIrq hd supported hf
  refine ⟨?_, fun answered => ?_⟩
  · obtain ⟨t, next, -⟩ := exec_endsStep i v
    rw [step_of_ready ready, boundary, cpuStep_of_no_interrupt running noNmi noIrq, next]
    exact instrStep_of_next (fetchInstr_of_decode hd supported hf) next
  · have same := fetchBytes_of_peek answered
    rwa [hf] at same

/-- Settles O5: both kinds of opcode raise the error, whose record is of the registers as they are. -/
theorem unsupportedHalts : Obligations.UnsupportedHalts := by
  intro i s h
  rw [← raiseFatal_eq]
  obtain status | ⟨status, off⟩ := h
  · rw [eq_unsupported_of_status status]
    rfl
  · exact exec_undocumented_of_empty status off
end

section
/-! Loads and stores: when a reading form's effect, taken on what the reads leave, and a storing form's store complete. -/

namespace Sys2Proof.Machine

/-- An effect on registers and flags that does not look at the cycle count can be taken on what the reads of its form leave:
the step completes there, and memory reads as before (R112, R394). -/
theorem Reads.completes_after {f : ReadForm} {e : Byte → State → State} {s t : State} (h : Reads f e)
    (counts : ∀ n m u, finish n (e m u) = e m (finish n u)) (registers : ∀ m u, RegistersOnly u (e m u))
    (he : e (f.read s).value (f.after s) = t) : CompletesReading f.instr s t := by
  subst he
  refine h.completes (fun reads => ?_) (fun addr => ?_)
  · rw [counts, ReadForm.after_eq reads]
  · have same := registers (f.read s).value (f.after s)
    exact peek_congr (congrArg State.ram same) (congrArg State.cart same) addr

/-- A storing form completes with the byte its register holds before the step (R153). -/
theorem Stores.completes {f : MemoryForm} {v : State → Byte} {s : State} (h : Stores f v) (hi : s.Inv)
    (kept : ∀ u, ReadsOnly (s.advance f.length) u → v u = v s) :
    CompletesStoring f.instr (f.address s) (v s) s (f.stored (v s) s) :=
  storing_completes (h.exec s) (h.readsOnly s) hi (kept _ (h.readsOnly s))

end Sys2Proof.Machine

open Sys2Proof Sys2Proof.Machine

/-- Settles O28: the effect of each load on what the reads leave, its flags in numbers. -/
theorem loadResult : Obligations.LoadResult := by
  intro imm zp w s
  refine ⟨fun f hf => ?_, fun f hf => ?_, fun f hf => ?_, rfl, rfl, rfl⟩
  · refine (ldaForms_reads imm zp w f hf).completes_after (fun _ _ _ => rfl) (fun _ _ => rfl) ?_
    rw [ldaEffect, setZN_eq]
    rfl
  · refine (ldxForms_reads imm zp w f hf).completes_after (fun _ _ _ => rfl) (fun _ _ => rfl) ?_
    rw [ldxEffect, setZN_eq]
    rfl
  · refine (ldyForms_reads imm zp w f hf).completes_after (fun _ _ _ => rfl) (fun _ _ => rfl) ?_
    rw [ldyEffect, setZN_eq]
    rfl

/-- Settles O29: resolving the address leaves every register as it is, so that the byte stored is the one held before the step. -/
theorem storeResult : Obligations.StoreResult := by
  intro zp w s hi
  refine ⟨fun f hf => ?_, fun f hf => ?_, fun f hf => ?_, fun hu f hf => ?_, rfl, rfl, rfl, rfl⟩
  · exact (staForms_stores zp w f hf).completes hi fun _ reads => reads.a_eq
  · exact (stxForms_stores zp w f hf).completes hi fun _ reads => reads.x_eq
  · exact (styForms_stores zp w f hf).completes hi fun _ reads => reads.y_eq
  · obtain ⟨meaning, reads⟩ := saxForms_stores zp w f hf
    exact storing_completes (meaning s hu) (reads s) hi (congrArg₂ (· &&& ·) (reads s).a_eq (reads s).x_eq)
end

section
/-! The register transfers and the one-byte stack instructions: a step that reads no memory but the stack, and one that pushes a
byte. -/

namespace Sys2Proof.Machine

/-- A step that leaves RAM and the cartridge alone shows the memory it found. -/
theorem CompletesReading.of_kept {i : Instr} {s t : State} (next : exec i s = .next t) (ram : t.ram = s.ram)
    (cart : t.cart = s.cart) : CompletesReading i s t :=
  ⟨next, peek_congr ram cart⟩

/-- Registers and flags are no part of RAM or the cartridge. -/
theorem RegistersOnly.stores_eq {s t : State} (h : RegistersOnly s t) : t.ram = s.ram ∧ t.cart = s.cart := by
  rw [h]
  exact ⟨rfl, rfl⟩

/-- An implied instruction whose effect is on registers and flags completes, and memory reads as before (R113). -/
theorem impliedStep_completes {i : Instr} {base : Nat} {s : State} (e : State → State)
    (meaning : exec i s = .next (impliedStep base e s)) (registers : RegistersOnly (s.advance 1) (e (s.advance 1))) :
    CompletesReading i s (finish base (e (s.advance 1))) := by
  obtain ⟨ram, cart⟩ := registers.stores_eq
  exact .of_kept meaning ram cart

/-! ## The stack instructions -/

/-- PHA pushes `A` (R166). -/
theorem exec_pha (s : State) : exec .pha s = .next (pushThen s.a (finish 3) (s.advance 1)) := rfl

/-- PHP pushes the status byte with bits 4 and 5 set (R167). -/
theorem exec_php (s : State) : exec .php s = .next (pushThen (statusOf true s.flags) (finish 3) (s.advance 1)) := by
  rw [← pack_eq]
  rfl

/-- PLA takes the byte popped into `A` (R168). -/
theorem exec_pla (s : State) : exec .pla s = .next (popThen (fun v t => finish 4 (plaEffect v t)) (s.advance 1)) := rfl

/-- PLP takes the flags from the byte popped (R169). -/
theorem exec_plp (s : State) : exec .plp s = .next (popThen (fun v t => finish 4 (plpEffect v t)) (s.advance 1)) := rfl

/-- One byte pushed, where there is room for it (R62, R64). -/
theorem pushThen_advance_of_canPush {s : State} (hc : s.canPush 1) (v : Byte) (n : Nat) :
    pushThen v (finish n) (s.advance 1) = { s with
      pc := s.pc + 1, sp := s.sp - 1, ram := pushedRam s.ram s.sp [v] }.counted (n + s.extraCycles + s.stall) := by
  rw [pushThen_of_canPush (n := 0) (by exact hc), push_eq]
  rfl

/-- One byte popped, where the stack holds one (R63, R64). -/
theorem popThen_advance_of_canPop {s : State} (hc : s.canPop 1) (k : Byte → State → State) :
    popThen k (s.advance 1) = k (s.stackByte 1) { s with pc := s.pc + 1, sp := s.sp + 1 } := by
  rw [popThen_of_canPop (n := 0) (by exact hc), pop_eq, stackByte_eq]
  rfl

/-- A byte pushed lies at the old stack pointer, and nowhere else does memory change (R62). -/
theorem peek_of_pushed_one {s t : State} {v : Byte} (hw : s.ram.wf = true) (hr : t.ram = pushedRam s.ram s.sp [v])
    (hc : t.cart = s.cart) : t.peek (stackAddr s.sp) = some v ∧ ChangedOnlyAt (pushedAt s.sp 1) s t := by
  refine ⟨?_, changedOnlyAt_pushed [v] hr hc⟩
  rw [peek_stackAddr, hr]
  exact congrArg some (Memory.read_write_self _ _ hw)

end Sys2Proof.Machine

open Sys2Proof Sys2Proof.Machine

/-- Settles O31: PHA and PHP are one push of their byte, which the stack has room for or not. -/
theorem pushResult : Obligations.PushResult := by
  refine ⟨fun s hi hc => ?_, fun s hp empty => ?_, rfl⟩
  · simp only [List.forall_mem_cons, List.not_mem_nil]
    refine ⟨⟨_, ?_, rfl, peek_of_pushed_one hi.ramWf rfl rfl⟩, ⟨_, ?_, rfl, peek_of_pushed_one hi.ramWf rfl rfl⟩, nofun⟩
    · rw [exec_pha, pushThen_advance_of_canPush hc]
    · rw [exec_php, pushThen_advance_of_canPush hc]
  · have halts (v : Byte) := pushThen_exhausted (s := s.advance 1) hp empty v (finish 3)
    simp only [List.forall_mem_cons, List.not_mem_nil, exec_pha, exec_php, halts]
    exact ⟨rfl, rfl, nofun⟩

/-- Settles O32: PLA and PLP are one pop, of which the stack holds the byte or not, and an effect on registers and flags. -/
theorem pullResult : Obligations.PullResult := by
  refine ⟨fun s hc => ⟨?_, ?_⟩, fun s hp empty => ?_, rfl⟩
  · refine .of_kept ?_ rfl rfl
    rw [exec_pla, popThen_advance_of_canPop hc, plaEffect, setZN_eq]
    rfl
  · refine .of_kept ?_ rfl rfl
    rw [exec_plp, popThen_advance_of_canPop hc, plpEffect, unpack_eq]
    rfl
  · have halts := popThen_exhausted (s := s.advance 1) hp empty
    simp only [List.forall_mem_cons, List.not_mem_nil, exec_pla, exec_plp, halts]
    exact ⟨rfl, rfl, nofun⟩

/-- Settles O30: each transfer is an implied step of its effect, its flags in numbers. -/
theorem transferResult : Obligations.TransferResult := by
  intro s
  simp only [← setZN_eq]
  exact ⟨impliedStep_completes taxEffect rfl rfl, impliedStep_completes tayEffect rfl rfl,
    impliedStep_completes txaEffect rfl rfl, impliedStep_completes tyaEffect rfl rfl,
    impliedStep_completes tsxEffect rfl rfl, impliedStep_completes txsEffect rfl rfl, rfl⟩
end

section
/-! Arithmetic: the forms of SBC where the machine supports them, overflow as a signed range, and reads that do not look at D. -/

namespace Sys2Proof.Machine

/-! ## Completion -/

/-- `Reads.completes_after` at one state: what is asked of the meaning there is that it reads the operand and does `e`. -/
theorem reading_completes_after {f : ReadForm} {e : Byte → State → State} {s t : State}
    (meaning : exec f.instr s =
      .next (finish (f.cycles + pagePenalty f.penalty (f.read s).crossed) (e (f.read s).value (f.read s).state)))
    (reads : ReadsOnly (s.advance f.length) (f.read s).state)
    (counts : ∀ n m u, finish n (e m u) = e m (finish n u)) (registers : ∀ m u, RegistersOnly u (e m u))
    (he : e (f.read s).value (f.after s) = t) : CompletesReading f.instr s t := by
  subst he
  obtain ⟨ram, cart⟩ := (registers (f.read s).value (f.after s)).stores_eq
  refine .of_kept ?_ ram cart
  rw [meaning, counts, ReadForm.after_eq reads]

/-- A comparison of the register `r` with the byte read completes and writes the flags alone (R183). -/
theorem Reads.compares {f : ReadForm} {s : State} (r : State → Byte)
    (h : Reads f fun m u => u.setFlags (compareFlags (r u) m u.flags)) (counts : ∀ n u, r (finish n u) = r u)
    (after : r (f.after s) = r s) :
    CompletesReading f.instr s { f.after s with flags := s.flags.compared (r s) (f.read s).value } := by
  refine h.completes_after (fun n m u => ?_) (fun _ _ => rfl) ?_
  · rw [counts]
    rfl
  · rw [after, compareFlags_eq]
    rfl

/-- A documented form of SBC reads and subtracts whether the undocumented instructions are supported or not (R131, R182). -/
theorem sbcForms_reads_of_documented (imm zp : Byte) (w : Word) :
    ∀ f ∈ sbcForms imm zp w, f.instr.status ≠ .undocumented → Reads f sbcEffect := by
  intro f hf documented
  refine ⟨fun s => ?_, (sbcForms_reads imm zp w f hf).readsOnly⟩
  simp only [sbcForms, List.mem_cons, List.not_mem_nil, or_false] at hf
  obtain rfl | rfl | rfl | rfl | rfl | rfl | rfl | rfl | rfl := hf
  exacts [rfl, rfl, rfl, absurd rfl documented, rfl, rfl, rfl, rfl, rfl]

/-- The meaning of a form of SBC that the machine supports (R182, R265, R275). -/
theorem sbcForms_exec {imm zp : Byte} {w : Word} {f : ReadForm} {s : State} (hf : f ∈ sbcForms imm zp w)
    (supported : f.instr.status = .undocumented → s.params.undocSet = true) :
    exec f.instr s = .next
      (finish (f.cycles + pagePenalty f.penalty (f.read s).crossed) (sbcEffect (f.read s).value (f.read s).state)) := by
  by_cases status : f.instr.status = .undocumented
  · exact (sbcForms_reads imm zp w f hf).exec s (supported status)
  · exact (sbcForms_reads_of_documented imm zp w f hf status).exec s

/-- INC or DEC completes with its store of `r`, once `r` is shown to be its result (R186, R187). -/
theorem incDec_completes {f : MemoryForm} {g : Bool → Byte → Byte} {s : State} {r : Byte}
    (h : Modifies f g incDecEffect) (hi : s.Inv) (hg : g s.flags.c (f.read s).value = r) :
    CompletesStoring f.instr (f.address s) r s { f.modified r s with flags := s.flags.withZN r } := by
  refine modifying_completes hi (h.exec s) (h.readsOnly s) r hg (fun u flags _ stored => ?_) rfl rfl
  rw [incDecEffect, setZN_eq, flags, ← stored]
  rfl

/-! ## Effects in numbers -/

/-- What ADC does to `A` and the flags (R181). -/
theorem adcEffect_eq (m : Byte) (s : State) :
    adcEffect m s = { s with a := sumByte s.a m s.flags.c, flags := s.flags.added s.a m } := by
  rw [adcEffect, addResult_eq, addFlags_eq]
  rfl

/-- V of an addition says that the sum of the operands as signed numbers and the carry does not fit in a byte (R180, R181). -/
theorem Flags.added_v (f : Flags) (a m : Byte) :
    (f.added a m).v = decide (a.toInt + m.toInt + (if f.c then 1 else 0) < -128 ∨
      127 < a.toInt + m.toInt + (if f.c then 1 else 0)) := by
  have ha := a.isLt
  have hm := m.isLt
  have v : (f.added a m).v =
    (a.getLsbD 7 == m.getLsbD 7 && (sumByte a m f.c).getLsbD 7 != a.getLsbD 7) := rfl
  have sum : (sumByte a m f.c).toNat = (a.toNat + m.toNat + (if f.c then 1 else 0)) % 256 := BitVec.toNat_ofNat _ _
  rw [v, getLsbD_seven, getLsbD_seven, getLsbD_seven, sum, BitVec.toInt_eq_toNat_cond, BitVec.toInt_eq_toNat_cond,
    Bool.eq_iff_iff]
  simp only [Bool.and_eq_true, beq_iff_eq, bne_iff_ne, ne_eq, decide_eq_decide, decide_eq_true_eq]
  cases f.c <;> simp only [Bool.false_eq_true, if_true, if_false] <;> omega

/-- The one's complement of a byte, as a signed number (R182). -/
theorem complement_toInt (m : Byte) : (complement m).toInt = -m.toInt - 1 := by
  have hm := m.isLt
  have value : (complement m).toNat = 255 - m.toNat := by
    rw [complement_eq, BitVec.toNat_ofNat, Nat.mod_eq_of_lt (by omega)]
  rw [BitVec.toInt_eq_toNat_cond, BitVec.toInt_eq_toNat_cond, value]
  omega

/-- V of a subtraction says that the signed difference, less the borrow, does not fit in a byte (R180, R182). -/
theorem Flags.added_complement_v (f : Flags) (a m : Byte) :
    (f.added a (complement m)).v = decide (a.toInt - m.toInt - (if f.c then 0 else 1) < -128 ∨
      127 < a.toInt - m.toInt - (if f.c then 0 else 1)) := by
  have difference : a.toInt + (complement m).toInt + (if f.c then 1 else 0) =
      a.toInt - m.toInt - (if f.c then 0 else 1) := by
    rw [complement_toInt]
    cases f.c <;> simp only [Bool.false_eq_true, if_true, if_false] <;> omega
  rw [Flags.added_v, difference]

/-! ## D replaced -/

/-- An operand is found and read the same whatever D is, and D stays as replaced. -/
def IgnoresD (operand : State → Operand) : Prop :=
  ∀ (s : State) (d : Bool), operand (s.withD d) = { operand s with state := (operand s).state.withD d }

theorem nextPortByte_withD (s : State) (d : Bool) :
    nextPortByte (s.withD d) = ((nextPortByte s).1, (nextPortByte s).2.withD d) := by
  unfold nextPortByte
  dsimp only [State.withD]
  split <;> rfl

theorem readPort_withD (access : Byte → Output) (s : State) (d : Bool) :
    readPort access (s.withD d) = ((readPort access s).1, (readPort access s).2.withD d) := by
  rw [readPort, nextPortByte_withD]
  rfl

/-- A bus read does not look at D (R53). -/
theorem busRead_withD (addr : Word) (s : State) (d : Bool) :
    busRead addr (s.withD d) = ((busRead addr s).1, (busRead addr s).2.withD d) := by
  unfold busRead
  cases region addr with
  | ram | audio | spriteDma | audioStatus | unmapped => rfl
  | graphics | controller | frame => exact readPort_withD _ s d
  | cartridge =>
    have cart : (s.withD d).cart = s.cart := rfl
    dsimp only
    rw [cart]
    cases s.cart.cpuRead addr <;> rfl

theorem read16Bug_withD (addr : Word) (s : State) (d : Bool) :
    read16Bug addr (s.withD d) = ((read16Bug addr s).1, (read16Bug addr s).2.withD d) := by
  simp only [read16Bug, busRead_withD]

theorem memoryOperand_ignoresD {mode : State → Resolved}
    (resolved : ∀ s d, mode (s.withD d) = { mode s with state := (mode s).state.withD d }) :
    IgnoresD (memoryOperand mode) := by
  intro s d
  rw [memoryOperand, resolved, busRead_withD]
  rfl

theorem indexedIndirect_withD (zp : Byte) (s : State) (d : Bool) : indexedIndirect zp (s.withD d) =
    { indexedIndirect zp s with state := (indexedIndirect zp s).state.withD d } := by
  rw [indexedIndirect, read16Bug_withD]
  rfl

theorem indirectIndexed_withD (zp : Byte) (s : State) (d : Bool) : indirectIndexed zp (s.withD d) =
    { indirectIndexed zp s with state := (indirectIndexed zp s).state.withD d } := by
  rw [indirectIndexed, read16Bug_withD]
  rfl

/-- No form of ADC or SBC looks at D to find its operand (R113 to R125). -/
theorem arithmeticForms_ignoreD (imm zp : Byte) (w : Word) :
    ∀ f ∈ adcForms imm zp w ++ sbcForms imm zp w, IgnoresD f.operand := by
  have immediate : IgnoresD (immediateOperand imm) := fun _ _ => rfl
  have preindexed := memoryOperand_ignoresD (indexedIndirect_withD zp)
  have postindexed := memoryOperand_ignoresD (indirectIndexed_withD zp)
  have direct : IgnoresD (memoryOperand (zeroPage zp)) ∧ IgnoresD (memoryOperand (zeroPageX zp)) ∧
      IgnoresD (memoryOperand (absolute w)) ∧ IgnoresD (memoryOperand (absoluteX w)) ∧
      IgnoresD (memoryOperand (absoluteY w)) := by
    refine ⟨?_, ?_, ?_, ?_, ?_⟩ <;> exact memoryOperand_ignoresD fun _ _ => rfl
  simp only [adcForms, sbcForms, List.cons_append, List.nil_append, List.forall_mem_cons, List.not_mem_nil,
    false_imp_iff, implies_true, immediate, preindexed, postindexed, direct, and_true]

/-- With D replaced a reading form does the same, if neither its operand nor its effect looks at D. -/
theorem ReadsUndocumented.exec_withD {f : ReadForm} {e : Byte → State → State} {s t : State} {d : Bool}
    (h : ReadsUndocumented f e) (hu : s.params.undocSet = true) (operand : IgnoresD f.operand)
    (effect : ∀ m u, e m (u.withD d) = (e m u).withD d) (next : Machine.exec f.instr s = .next t) :
    Machine.exec f.instr (s.withD d) = .next (t.withD d) := by
  have read : f.read (s.withD d) = { f.read s with state := (f.read s).state.withD d } := operand (s.advance f.length) d
  rw [h.exec s hu] at next
  cases next
  rw [h.exec (s.withD d) hu, read, effect]
  rfl

theorem Reads.undocumented {f : ReadForm} {e : Byte → State → State} (h : Reads f e) : ReadsUndocumented f e :=
  ⟨fun s _ => h.exec s, h.readsOnly⟩

end Sys2Proof.Machine

open Sys2Proof Sys2Proof.Machine

/-- Settles O33: ADC's effect on what the reads leave, in numbers. -/
theorem adcResult : Obligations.AdcResult := by
  intro imm zp w s
  refine ⟨fun f hf => ?_, rfl⟩
  refine (adcForms_reads imm zp w f hf).completes_after (fun _ _ _ => rfl) (fun _ _ => rfl) ?_
  rw [adcEffect_eq]
  rfl

/-- Settles O34: a supported form's effect is ADC's, of the complement. -/
theorem sbcResult : Obligations.SbcResult := by
  intro imm zp w s
  refine ⟨fun f hf supported => ?_, rfl⟩
  refine reading_completes_after (sbcForms_exec hf supported) ((sbcForms_reads imm zp w f hf).readsOnly s)
    (fun _ _ _ => rfl) (fun _ _ => rfl) ?_
  rw [sbcEffect, adcEffect_eq, complement_eq]
  rfl

/-- Settles O35: each comparison's effect on what the reads leave, which writes the flags alone. -/
theorem compareResult : Obligations.CompareResult := by
  intro imm zp w s
  refine ⟨fun f hf => ?_, fun f hf => ?_, fun f hf => ?_, rfl, rfl, rfl⟩
  · exact (cmpForms_reads imm zp w f hf).compares State.a (fun _ _ => rfl) rfl
  · exact (cpxForms_reads imm zp w f hf).compares State.x (fun _ _ => rfl) rfl
  · exact (cpyForms_reads imm zp w f hf).compares State.y (fun _ _ => rfl) rfl

/-- Settles O36: the byte stored is the byte read plus or minus one, in numbers. -/
theorem incDecMemory : Obligations.IncDecMemory := by
  intro zp w s hi
  refine ⟨fun f hf => ?_, fun f hf => ?_, rfl, rfl⟩
  · exact incDec_completes (incForms_modifies zp w f hf) hi (inc_eq _)
  · exact incDec_completes (decForms_modifies zp w f hf) hi (dec_eq _)

/-- Settles O37: each is an implied step of its effect, its result and flags in numbers. -/
theorem incDecRegister : Obligations.IncDecRegister := by
  intro s
  simp only [← setZN_eq, ← inc_eq, ← dec_eq]
  exact ⟨impliedStep_completes inxEffect rfl rfl, impliedStep_completes inyEffect rfl rfl,
    impliedStep_completes dexEffect rfl rfl, impliedStep_completes deyEffect rfl rfl, rfl⟩

/-- Settles O38: the flags of the completed step are an addition's; SBC adds the complement, which is `-m - 1`. -/
theorem signedOverflow : Obligations.SignedOverflow := by
  intro imm zp w s t hu
  refine ⟨fun f hf next => ?_, fun f hf next => ?_⟩
  · obtain ⟨completes, -⟩ := (adcResult imm zp w s).1 f hf
    rw [completes] at next
    cases next
    exact Flags.added_v _ _ _
  · obtain ⟨completes, -⟩ := (sbcResult imm zp w s).1 f hf fun _ => hu
    rw [completes] at next
    cases next
    rw [← complement_eq]
    exact Flags.added_complement_v _ _ _

/-- Settles O39: no operand is found by looking at D, and ADC and SBC copy D from flags to flags. -/
theorem decimalIgnored : Obligations.DecimalIgnored := by
  intro imm zp w s t d hu f hf next
  have operand := arithmeticForms_ignoreD imm zp w f hf
  obtain adc | sbc := List.mem_append.1 hf
  · exact (adcForms_reads imm zp w f adc).undocumented.exec_withD hu operand (fun _ _ => rfl) next
  · exact (sbcForms_reads imm zp w f sbc).exec_withD hu operand (fun _ _ => rfl) next
end

section
/-! Logic, shifts and rotates: a result written to `A` with Z and N, and a byte shifted in `A` or in memory, C the bit shifted out. -/

namespace Sys2Proof.Machine

/-! ## Logic -/

/-- AND, ORA or EOR completes with `A` combined with the byte read (R200 to R202). -/
theorem Reads.combines {f : ReadForm} (op : Byte → Byte → Byte) (h : Reads f fun m u => logicEffect (op u.a m) u)
    (s : State) : CompletesReading f.instr s { f.after s with
      a := op s.a (f.read s).value, flags := s.flags.withZN (op s.a (f.read s).value) } := by
  refine h.completes_after (fun _ _ _ => rfl) (fun _ _ => rfl) ?_
  rw [logicEffect, setZN_eq]
  rfl

/-- The flags of BIT: Z says that `A & m` is 0 (R203). -/
theorem bitFlags_eq (a m : Byte) (f : Flags) :
    bitFlags a m f = { f with z := decide (a &&& m = 0), v := m.getLsbD 6, n := m.getLsbD 7 } := rfl

/-! ## Shifts and rotates -/

/-- The flags of a shift or rotate in numbers (R204 to R207). -/
theorem shiftFlags_eq (out : Bool) (r : Byte) (f : Flags) : shiftFlags out r f = { f with c := out }.withZN r :=
  setZN_eq r _

/-- `e` is the effect of a shift or rotate that moves the bit `out v` of `v` into C. -/
def ShiftsOut (out : Byte → Bool) (e : Byte → Byte → State → State) : Prop :=
  ∀ (v r : Byte) (s : State), e v r s = { s with flags := { s.flags with c := out v }.withZN r }

/-- To the left bit 7 is shifted out (R204, R206). -/
theorem leftEffect_shiftsOut : ShiftsOut (fun v => decide (128 ≤ v.toNat)) leftEffect := by
  intro v r s
  rw [leftEffect, shiftFlags_eq, getLsbD_seven]
  rfl

/-- To the right bit 0 is shifted out (R205, R207). -/
theorem rightEffect_shiftsOut : ShiftsOut (fun v => decide (v.toNat % 2 = 1)) rightEffect := by
  intro v r s
  rw [rightEffect, shiftFlags_eq, getLsbD_zero]
  rfl

/-- A shift or rotate of `A` completes with its result there, once `r` is shown to be its result (R114, R208). -/
theorem ShiftsOut.accumulator_completes {i : Instr} {out : Byte → Bool} {g : Bool → Byte → Byte}
    {e : Byte → Byte → State → State} {s : State} {r : Byte} (effect : ShiftsOut out e)
    (meaning : exec i s = .next (accumulatorStep 2 g e s)) (result : g s.flags.c s.a = r) :
    CompletesReading i s { { s with pc := s.pc + 1 }.counted (2 + s.extraCycles + s.stall) with
      a := r, flags := { s.flags with c := out s.a }.withZN r } := by
  subst result
  refine .of_kept ?_ rfl rfl
  rw [meaning, accumulatorStep, impliedStep, effect]
  rfl

/-- A shift or rotate of memory completes with its store of `r`, once `r` is shown to be its result (R208). -/
theorem ShiftsOut.memory_completes {f : MemoryForm} {out : Byte → Bool} {g : Bool → Byte → Byte}
    {e : Byte → Byte → State → State} {s : State} {r : Byte} (effect : ShiftsOut out e) (h : Modifies f g e) (hi : s.Inv)
    (result : g s.flags.c (f.read s).value = r) :
    CompletesStoring f.instr (f.address s) r s
      { f.modified r s with flags := { s.flags with c := out (f.read s).value }.withZN r } := by
  refine modifying_completes hi (h.exec s) (h.readsOnly s) r result (fun u flags _ stored => ?_) rfl rfl
  rw [effect, flags, ← stored]
  rfl

end Sys2Proof.Machine

open Sys2Proof Sys2Proof.Machine

/-- Settles O40: AND, ORA and EOR are one effect with an operation each; BIT's is on the flags alone. -/
theorem logicResult : Obligations.LogicResult := by
  intro imm zp w s
  refine ⟨fun f hf => ?_, fun f hf => ?_, fun f hf => ?_, fun f hf => ?_, rfl, rfl, rfl, rfl⟩
  · exact (andForms_reads imm zp w f hf).combines (· &&& ·) s
  · exact (oraForms_reads imm zp w f hf).combines (· ||| ·) s
  · exact (eorForms_reads imm zp w f hf).combines (· ^^^ ·) s
  · refine (bitForms_reads zp w f hf).completes_after (fun _ _ _ => rfl) (fun _ _ => rfl) ?_
    rw [bitEffect, bitFlags_eq]
    rfl

/-- Settles O41: the two directions differ in the bit shifted out, the four instructions in the result, each in numbers. -/
theorem shiftResult : Obligations.ShiftResult := by
  intro zp w s
  have left := leftEffect_shiftsOut
  have right := rightEffect_shiftsOut
  refine ⟨⟨?_, ?_, ?_, ?_⟩, fun hi => ⟨fun f hf => ?_, fun f hf => ?_, fun f hf => ?_, fun f hf => ?_⟩,
    rfl, rfl, rfl, rfl, rfl⟩
  · exact left.accumulator_completes rfl (shiftLeft_eq s.a)
  · exact right.accumulator_completes rfl (shiftRight_eq s.a)
  · exact left.accumulator_completes rfl (rotateLeft_eq s.flags.c s.a)
  · exact right.accumulator_completes rfl (rotateRight_eq s.flags.c s.a)
  · exact left.memory_completes (aslForms_modifies zp w f hf) hi (shiftLeft_eq _)
  · exact right.memory_completes (lsrForms_modifies zp w f hf) hi (shiftRight_eq _)
  · exact left.memory_completes (rolForms_modifies zp w f hf) hi (rotateLeft_eq _ _)
  · exact right.memory_completes (rorForms_modifies zp w f hf) hi (rotateRight_eq _ _)
end

section
/-! Control transfer: a branch's two outcomes in numbers, the jump through a pointer, and the two stack bytes of a call. -/

namespace Sys2Proof.Machine

/-! ## Branches -/

/-- The two outcomes of a branch in numbers (R125, R126, R220). -/
theorem branchStep_eq (taken : Bool) (off : Byte) (s : State) :
    branchStep taken off s =
      let target : Word := BitVec.ofInt 16 ((s.pc + 2).toNat + off.toInt)
      if taken = true then
        { s with pc := target }.counted
          ((if target.toNat / 256 = (s.pc + 2).toNat / 256 then 3 else 4) + s.extraCycles + s.stall)
      else { s with pc := s.pc + 2 }.counted (2 + s.extraCycles + s.stall) := by
  cases taken with
  | false => rfl
  | true =>
    have penalty (same : Prop) [Decidable same] : 3 + pagePenalty true (decide ¬same) = if same then 3 else 4 := by
      rw [pagePenalty_true]
      by_cases h : same <;> simp [h]
    rw [branchStep, relative_resolved, if_pos rfl, penalty]
    rfl

/-- A branch reads no memory but its own bytes. -/
theorem branch_completes {i : Instr} {taken : Bool} {off : Byte} {s : State}
    (meaning : exec i s = .next (branchStep taken off s)) : CompletesReading i s (branchStep taken off s) := by
  cases taken <;> exact .of_kept meaning rfl rfl

/-! ## Jumps -/

/-- JMP through a pointer goes to the word read there (R229). -/
theorem exec_jmpIndirect (w : Word) (s : State) :
    exec (.jmpIndirect w) s = .next (finish 5 ((read16Bug w (s.advance 3)).2.setPc (read16Bug w (s.advance 3)).1)) := rfl

/-- Bus reads after `PC` has moved past the instruction, and then a jump: what the first move wrote is lost. -/
theorem ReadsOnly.setPc_of_advance {s u : State} {n : Nat} (h : ReadsOnly (s.advance n) u) (w : Word) :
    u.setPc w = { s with pc := w }.withReads u := by
  unfold ReadsOnly at h
  rw [h]
  rfl

/-! ## Calls -/

/-- Two bytes pushed lie at the old stack pointer and below it, and nowhere else does memory change (R61, R62). -/
theorem peek_of_pushed_two {s t : State} {a b : Byte} (hw : s.ram.wf = true) (hr : t.ram = pushedRam s.ram s.sp [a, b])
    (hc : t.cart = s.cart) :
    t.peek (stackAddr s.sp) = some a ∧ t.peek (stackAddr (s.sp - 1)) = some b ∧ ChangedOnlyAt (pushedAt s.sp 2) s t := by
  obtain ⟨first, second⟩ := pushedRam_read_two hw s.sp a b
  refine ⟨?_, ?_, changedOnlyAt_pushed [a, b] hr hc⟩
  · rw [peek_stackAddr, hr, first]
  · rw [peek_stackAddr, hr, second]

/-- RTS, where the stack holds two bytes (R231). -/
theorem exec_rts_of_canPop {s : State} (hc : s.canPop 2) :
    exec .rts s = .next ({ s with
      pc := word (s.stackByte 2) (s.stackByte 1) + 1, sp := s.sp + 2 }.counted (6 + s.extraCycles + s.stall)) := by
  rw [exec_rts, pop16Then_of_canPop (s := s.advance 1) (n := 0) hc]
  rfl

end Sys2Proof.Machine

open Sys2Proof Sys2Proof.Machine

/-- Settles O42: all eight are one branch, each taken on its own flag. -/
theorem branchResult : Obligations.BranchResult := by
  intro off s
  simp only [List.forall_mem_cons, List.not_mem_nil, Bool.decide_eq_true, Bool.decide_eq_false, ← branchStep_eq]
  exact ⟨⟨branch_completes rfl, branch_completes rfl, branch_completes rfl, branch_completes rfl, branch_completes rfl,
    branch_completes rfl, branch_completes rfl, branch_completes rfl, nofun⟩, rfl⟩

/-- Settles O43: the pointer's two reads change only what bus reads may change, and nothing where storage answers them. -/
theorem jmpResult : Obligations.JmpResult := by
  intro w s
  refine ⟨.of_kept rfl rfl rfl, .of_kept ?_ rfl rfl, fun l h low high => ?_, rfl, rfl⟩
  · rw [exec_jmpIndirect, (read16Bug_readsOnly w (s.advance 3)).setPc_of_advance]
    rfl
  · rw [← bugAddr_eq] at high
    rw [exec_jmpIndirect, read16Bug_of_peek (s := s.advance 3) low high]
    rfl

/-- Settles O44: JSR is its two pushes and the jump. -/
theorem jsrResult : Obligations.JsrResult := by
  intro w s hi hc
  exact ⟨rfl, _, exec_jsrAbsolute_of_canPush hc w, rfl, peek_of_pushed_two hi.ramWf rfl rfl⟩

/-- Settles O45: RTS is its two pops and the jump, which leave memory alone. -/
theorem rtsResult : Obligations.RtsResult := by
  intro s hc
  exact ⟨.of_kept (exec_rts_of_canPop hc) rfl rfl, rfl⟩
end

section
/-! The flag instructions, BRK and RTI: a step that rewrites the flags, BRK's entry with its three stack bytes, and the return. -/

namespace Sys2Proof.Machine

/-! ## Flags -/

/-- An implied instruction that rewrites the flags completes in two cycles with the flags rewritten and nothing else changed
(R113, R245). -/
theorem flagStep_completes {i : Instr} {s : State} (g : Flags → Flags)
    (meaning : exec i s = .next (impliedStep 2 (fun t => t.setFlags (g t.flags)) s)) :
    CompletesReading i s
      { { s with pc := s.pc + 1 }.counted (2 + s.extraCycles + s.stall) with flags := g s.flags } :=
  impliedStep_completes (fun t => t.setFlags (g t.flags)) meaning rfl

/-! ## BRK and RTI -/

/-- Three bytes pushed lie at the old stack pointer and below it, and nowhere else does memory change (R62, R309). -/
theorem peek_of_pushed_three {s t : State} {a b c : Byte} (hw : s.ram.wf = true)
    (hr : t.ram = pushedRam s.ram s.sp [a, b, c]) (hc : t.cart = s.cart) :
    t.peek (stackAddr s.sp) = some a ∧ t.peek (stackAddr (s.sp - 1)) = some b ∧
      t.peek (stackAddr (s.sp - 2)) = some c ∧ ChangedOnlyAt (pushedAt s.sp 3) s t := by
  obtain ⟨first, second, third⟩ := pushedRam_read_three hw s.sp a b c
  simp only [peek_stackAddr, hr, first, second, third, true_and]
  exact changedOnlyAt_pushed [a, b, c] hr hc

/-- BRK, where the pushes are allowed and storage answers at the vector (R253, R312). -/
theorem exec_brk_of_canPush {s : State} {l h : Byte} (hc : s.canPush 3) (hl : s.peek 0xFFFE = some l)
    (hh : s.peek 0xFFFF = some h) :
    exec .brk s = .next ({ s with
      pc := word h l, sp := s.sp - 3, flags := { s.flags with i := true }
      ram := pushedRam s.ram s.sp [hi (s.pc + 2), lo (s.pc + 2), statusOf true s.flags] }.counted
        (7 + s.extraCycles + s.stall)) := by
  rw [exec_brk, enterInterrupt_of_canPush (s := s.advance 1) hc (s.pc + 2) true irqVector l h (by decide) (by decide) hl hh]
  rfl

/-- RTI, where the stack holds three bytes (R254). -/
theorem exec_rti_of_canPop {s : State} (hc : s.canPop 3) :
    exec .rti s = .next ({ s with
      pc := word (s.stackByte 3) (s.stackByte 2), sp := s.sp + 3
      flags := flagsOf (s.stackByte 1) }.counted (6 + s.extraCycles + s.stall)) := by
  rw [exec_rti, returnFromInterrupt_of_canPop (s := s.advance 1) hc]
  rfl

end Sys2Proof.Machine

open Sys2Proof Sys2Proof.Machine

/-- Settles O48: BRK is the interrupt entry with its own return address and bit 4 set; `I` plays no part in whether it is taken. -/
theorem brkResult : Obligations.BrkResult := by
  intro s l h inv room low high
  exact ⟨rfl, _, exec_brk_of_canPush room low high, rfl, peek_of_pushed_three inv.ramWf rfl rfl⟩

/-- Settles O49: RTI is its three pops, which leave memory alone. -/
theorem rtiResult : Obligations.RtiResult := by
  intro s held
  exact ⟨.of_kept (exec_rti_of_canPop held) rfl rfl, rfl⟩

/-- Settles O47: seven rewritings of the flags, each of its one flag, and NOP, an implied step without an effect. -/
theorem flagResult : Obligations.FlagResult := by
  intro s
  exact ⟨flagStep_completes ({ · with c := false }) rfl, flagStep_completes ({ · with c := true }) rfl,
    flagStep_completes ({ · with i := false }) rfl, flagStep_completes ({ · with i := true }) rfl,
    flagStep_completes ({ · with d := false }) rfl, flagStep_completes ({ · with d := true }) rfl,
    flagStep_completes ({ · with v := false }) rfl, impliedStep_completes (fun t => t) rfl rfl, rfl⟩
end

section
/-! The undocumented instructions where the machine supports them: a store combined with an update of `A` and the flags, and the
NOPs of one byte. -/

namespace Sys2Proof.Machine

/-! ## Completion -/

/-- A supported undocumented instruction takes its meaning (R265). -/
theorem undocumented_of_supported {s : State} (on : s.params.undocSet = true) (op : Byte) (f : State → State) :
    undocumented op f s = f s :=
  if_pos on

/-- A reading undocumented form completes with its effect taken on what the reads leave, as a documented one does (R112, R265). -/
theorem ReadsUndocumented.completes_after {f : ReadForm} {e : Byte → State → State} {s t : State} (h : ReadsUndocumented f e)
    (hu : s.params.undocSet = true) (counts : ∀ n m u, finish n (e m u) = e m (finish n u))
    (registers : ∀ m u, RegistersOnly u (e m u)) (he : e (f.read s).value (f.after s) = t) : CompletesReading f.instr s t :=
  reading_completes_after (h.exec s hu) (h.readsOnly s) counts registers he

/-- A NOP of one byte is an implied step without an effect (R113, R274). -/
theorem nopImpliedForms_exec {i : Instr} {s : State} (hi : i ∈ nopImpliedForms) (hu : s.params.undocSet = true) :
    exec i s = .next (impliedStep 2 (fun t => t) s) := by
  have meaning : exec i s = .next (undocumented i.opcode (impliedStep 2 fun t => t) s) := by
    simp only [nopImpliedForms, List.mem_cons, List.not_mem_nil, or_false] at hi
    obtain rfl | rfl | rfl | rfl | rfl | rfl := hi
    exacts [rfl, rfl, rfl, rfl, rfl, rfl]
  rw [meaning, undocumented_of_supported hu]

/-- A modifying undocumented form completes with its store of `r` and with `A` and the flags rewritten to `a` and `fl`, once its
effect is shown to do that from the `A` and the flags of `s`, which neither its read nor its store changes (R265). -/
theorem ModifiesUndocumented.completes {f : MemoryForm} {g : Bool → Byte → Byte} {e : Byte → Byte → State → State} {s : State}
    {r a : Byte} {fl : Flags} (h : ModifiesUndocumented f g e) (hi : s.Inv) (hu : s.params.undocSet = true)
    (result : g s.flags.c (f.read s).value = r)
    (effect : ∀ u : State, u.flags = s.flags → u.a = s.a → e (f.read s).value r u = { u with a := a, flags := fl }) :
    CompletesStoring f.instr (f.address s) r s { f.modified r s with a := a, flags := fl } := by
  refine modifying_completes hi (h.exec s hu) (h.readsOnly s) r result (fun u flags acc stored => ?_) rfl rfl
  rw [effect u flags acc, ← stored]
  rfl

/-! ## Effects in numbers -/

/-- DCP compares `A` with the byte stored, and writes the flags alone (R268). -/
theorem dcpEffect_eq (m r : Byte) (s : State) : dcpEffect m r s = { s with flags := s.flags.compared s.a r } := by
  rw [dcpEffect, cmpEffect, compareFlags_eq]
  rfl

/-- ISB subtracts the byte stored: it adds the complement (R182, R269). -/
theorem isbEffect_eq (m r : Byte) (s : State) :
    isbEffect m r s = { s with
      a := sumByte s.a (BitVec.ofNat 8 (255 - r.toNat)) s.flags.c
      flags := s.flags.added s.a (BitVec.ofNat 8 (255 - r.toNat)) } := by
  rw [isbEffect, sbcEffect, adcEffect_eq, complement_eq]

/-- `e` moves the bit `out v` of the old byte `v` into C and combines `A` with the byte stored by `op`, with Z and N. -/
def ShiftsAndCombines (out : Byte → Bool) (op : Byte → Byte → Byte) (e : Byte → Byte → State → State) : Prop :=
  ∀ (v r : Byte) (s : State),
    e v r s = { s with a := op s.a r, flags := { s.flags with c := out v }.withZN (op s.a r) }

/-- SLO shifts bit 7 out and combines by `or` (R270). -/
theorem sloEffect_combines : ShiftsAndCombines (fun v => decide (128 ≤ v.toNat)) (· ||| ·) sloEffect := by
  intro v r s
  rw [sloEffect, oraEffect, logicEffect, setZN_eq, getLsbD_seven]
  rfl

/-- RLA shifts bit 7 out and combines by `and` (R271). -/
theorem rlaEffect_combines : ShiftsAndCombines (fun v => decide (128 ≤ v.toNat)) (· &&& ·) rlaEffect := by
  intro v r s
  rw [rlaEffect, andEffect, logicEffect, setZN_eq, getLsbD_seven]
  rfl

/-- SRE shifts bit 0 out and combines by exclusive `or` (R272). -/
theorem sreEffect_combines : ShiftsAndCombines (fun v => decide (v.toNat % 2 = 1)) (· ^^^ ·) sreEffect := by
  intro v r s
  rw [sreEffect, eorEffect, logicEffect, setZN_eq, getLsbD_zero]
  rfl

/-- RRA adds the byte stored with bit 0 of the old byte as the carry, not the carry before the instruction (R273). -/
theorem rraEffect_eq (m r : Byte) (s : State) :
    rraEffect m r s = { s with
      a := sumByte s.a r (decide (m.toNat % 2 = 1))
      flags := { s.flags with c := decide (m.toNat % 2 = 1) }.added s.a r } := by
  rw [rraEffect, adcEffect_eq, getLsbD_zero]
  rfl

/-- SLO, RLA or SRE completes with its store of `r`, once `r` is shown to be its shifted byte (R270 to R272). -/
theorem ShiftsAndCombines.completes {f : MemoryForm} {out : Byte → Bool} {op : Byte → Byte → Byte} {g : Bool → Byte → Byte}
    {e : Byte → Byte → State → State} {s : State} {r : Byte} (effect : ShiftsAndCombines out op e)
    (h : ModifiesUndocumented f g e) (hi : s.Inv) (hu : s.params.undocSet = true)
    (result : g s.flags.c (f.read s).value = r) :
    CompletesStoring f.instr (f.address s) r s { f.modified r s with
      a := op s.a r, flags := { s.flags with c := out (f.read s).value }.withZN (op s.a r) } :=
  h.completes hi hu result fun u flags acc => by rw [effect, flags, acc]

end Sys2Proof.Machine

open Sys2Proof Sys2Proof.Machine

/-- Settles O51: LAX's effect on what the reads leave, its flags in numbers; a NOP's effect changes nothing. -/
theorem laxNopResult : Obligations.LaxNopResult := by
  intro imm zp w s hu
  refine ⟨fun f hf => ?_, fun f hf => ?_, fun i hi => ?_, rfl, rfl, rfl⟩
  · refine (laxForms_reads zp w f hf).completes_after hu (fun _ _ _ => rfl) (fun _ _ => rfl) ?_
    rw [laxEffect, setZN_eq]
    rfl
  · exact (nopReadForms_reads imm zp w f hf).completes_after hu (fun _ _ _ => rfl) (fun _ _ => rfl) rfl
  · exact impliedStep_completes (fun t => t) (nopImpliedForms_exec hi hu) rfl

/-- Settles O52: the byte stored is the byte read minus or plus one; DCP's flags come from the compare alone, ISB's from the
subtraction. -/
theorem dcpIsbResult : Obligations.DcpIsbResult := by
  intro zp w s hi hu
  refine ⟨fun f hf => ?_, fun f hf => ?_, rfl, rfl⟩
  · refine (dcpForms_modifies zp w f hf).completes (a := s.a) hi hu (dec_eq _) fun u flags acc => ?_
    rw [dcpEffect_eq, flags, acc]
  · refine (isbForms_modifies zp w f hf).completes hi hu (inc_eq _) fun u flags acc => ?_
    rw [isbEffect_eq, flags, acc]

/-- Settles O53: SLO, RLA and SRE are one effect with an operation and a bit each; RRA's addition takes the rotate's carry. -/
theorem shiftCombineResult : Obligations.ShiftCombineResult := by
  intro zp w s hi hu
  refine ⟨fun f hf => ?_, fun f hf => ?_, fun f hf => ?_, fun f hf => ?_, rfl, rfl, rfl, rfl⟩
  · exact sloEffect_combines.completes (sloForms_modifies zp w f hf) hi hu (shiftLeft_eq _)
  · exact rlaEffect_combines.completes (rlaForms_modifies zp w f hf) hi hu (rotateLeft_eq _ _)
  · exact sreEffect_combines.completes (sreForms_modifies zp w f hf) hi hu (shiftRight_eq _)
  · refine (rraForms_modifies zp w f hf).completes hi hu (rotateRight_eq _ _) fun u flags acc => ?_
    rw [rraEffect_eq, flags, acc]
end

section
/-! The machine at a step boundary: one APU step per cycle, the APU steps owed, the interrupts' order and entries, a halted machine,
and Reset. -/

namespace Sys2Proof.Machine

/-! ## The pace of a step -/

/-- A CPU step owes the audio unit the cycles it counts, at least two unless it halts the machine, and steps no APU itself (R384,
R386, R394). -/
theorem EndsStep.owes {s t : State} (h : EndsStep s t) (settled : s.apuOwed = 0) :
    t.cycles = s.cycles + t.apuOwed ∧ t.apu.apuCycle = s.apu.apuCycle ∧ (t.halted = none → 2 ≤ t.apuOwed) := by
  obtain ⟨u, k, ⟨n, hn, rfl⟩ | ⟨-, e, rfl⟩⟩ := h
  · refine ⟨congrArg (· + u.stepCycles n) k.cycles, k.apuCycle, fun _ => ?_⟩
    change 2 ≤ n + u.extraCycles + u.stall
    omega
  · have owed : u.apuOwed = 0 := k.owed.trans settled
    refine ⟨?_, k.apuCycle, nofun⟩
    change u.cycles = s.cycles + u.apuOwed
    rw [owed, k.cycles, Nat.add_zero]

/-! ## The APU steps owed -/

theorem apuSteps_frame (n : Nat) (s : State) : ApuFrame s (apuSteps n s) := by
  induction n generalizing s with
  | zero => exact .refl s
  | succ n ih => exact (apuStep_frame s).trans (ih _)

theorem drainApu_frame (s : State) : ApuFrame s (drainApu s) := apuSteps_frame s.apuOwed s

/-- A running machine that owes APU steps takes just those (R386). -/
theorem step_of_owed {s : State} (running : s.halted = none) (owed : s.apuOwed ≠ 0) : step s = .next (drainApu s) := by
  rw [step, running, bne_iff_ne.2 owed]
  rfl

/-! ## A halted machine -/

/-- A halted machine takes no APU step: its step is the boundary's (R384, R386). -/
theorem step_of_halted {s : State} {r : HaltRecord} (h : s.halted = some r) : step s = cpuStep (deliverBoundary s) := by
  rw [step, h]
  rfl

theorem cpuStep_of_halted {s : State} {r : HaltRecord} (h : s.halted = some r) : cpuStep s = .fault (.halted r) := by
  rw [cpuStep, h]

/-- No event but Reset halts the machine or revives it (R300, R387). -/
theorem deliverEvent_halted {e : Event} (he : e ≠ .reset) (s : State) : (deliverEvent s e).halted = s.halted := by
  unfold deliverEvent
  split
  · rfl
  · cases e with
    | reset => exact absurd rfl he
    | _ => rfl

theorem deliverEvents_halted {events : List Event} (h : Event.reset ∉ events) (s : State) :
    (events.foldl deliverEvent s).halted = s.halted := by
  induction events generalizing s with
  | nil => rfl
  | cons e events ih =>
    obtain ⟨he, later⟩ := not_or.1 (mt List.mem_cons.2 h)
    exact (ih later _).trans (deliverEvent_halted (Ne.symm he) s)

/-- Reset revives the machine, and no event halts it after that (R380). -/
theorem deliverEvents_revive {events : List Event} {s : State} (h : Event.reset ∈ events ∨ s.halted = none) :
    (events.foldl deliverEvent s).halted = none := by
  induction events generalizing s with
  | nil => exact h.resolve_left List.not_mem_nil
  | cons e events ih =>
    apply ih
    by_cases he : e = .reset
    · exact .inr (by rw [he, deliverEvent_reset]; rfl)
    · rw [List.mem_cons, or_iff_right (Ne.symm he)] at h
      rwa [deliverEvent_halted he]

theorem deliverBoundary_halted {s : State} (h : ∀ events ∈ s.boundaries.head?, Event.reset ∉ events) :
    (deliverBoundary s).halted = s.halted := by
  unfold deliverBoundary
  split
  · rfl
  · next events later hb => exact deliverEvents_halted (h events (by rw [hb]; rfl)) _

theorem deliverBoundary_revives {s : State} {events : List Event} (hb : events ∈ s.boundaries.head?)
    (h : Event.reset ∈ events) : (deliverBoundary s).halted = none := by
  obtain ⟨later, hb⟩ := List.head?_eq_some_iff.1 hb
  rw [deliverBoundary, hb]
  exact deliverEvents_revive (.inl h)

/-! ## Interrupts -/

/-- A pending NMI is taken before anything else (R307, R310). -/
theorem cpuStep_of_nmi {s : State} (running : s.halted = none) (nmi : s.nmiPending = true) :
    cpuStep s = .next (drainApu (nmiEntry s)) := by
  rw [cpuStep, running, nmi]
  rfl

/-- An IRQ that `I` does not mask is taken where no NMI is pending (R307, R311). -/
theorem cpuStep_of_irq {s : State} (running : s.halted = none) (noNmi : s.nmiPending = false) (line : s.irqLine = true)
    (unmasked : s.flags.i = false) : cpuStep s = .next (drainApu (irqEntry s)) := by
  rw [cpuStep, running, noNmi, line, unmasked]
  rfl

/-- IRQ entry, where the pushes are allowed and storage answers at the vector (R311). -/
theorem irqEntry_of_canPush {s : State} {l h : Byte} (hc : s.canPush 3) (hl : s.peek 0xFFFE = some l)
    (hh : s.peek 0xFFFF = some h) :
    irqEntry s = { s with
      pc := word h l, sp := s.sp - 3, flags := { s.flags with i := true }
      ram := pushedRam s.ram s.sp [hi s.pc, lo s.pc, statusOf false s.flags] }.counted (7 + s.extraCycles + s.stall) :=
  enterInterrupt_of_canPush hc s.pc false irqVector l h (by decide) (by decide) hl hh

end Sys2Proof.Machine

open Sys2Proof Sys2Proof.Machine

/-- Settles O12: the boundary's events count no cycle and step no APU, the CPU step owes what it counts, and draining steps that. -/
theorem apuKeepsPace : Obligations.ApuKeepsPace := by
  intro s t hi noReset h
  obtain ⟨-, owed, -⟩ | ⟨-, hc⟩ := step_next h
  · exact absurd hi.settled owed
  · obtain ⟨u, hu, rfl⟩ := cpuStep_next hc
    obtain ⟨boundary, boundaryCycles⟩ := deliverBoundary_keeps s
    obtain ⟨counted, apuCycle, two⟩ := hu.owes (boundary.owed.trans hi.settled)
    obtain ⟨drain, drained, -⟩ := drainApu_keeps u
    rw [boundaryCycles noReset] at counted
    rw [drain.cycles, drain.halted, drained, apuCycle, boundary.apuCycle, counted]
    exact ⟨by omega, fun running => Nat.add_le_add_left (two running) _⟩

/-- Settles O7: each APU step keeps the frame and counts one, and there are as many as were owed. -/
theorem owedFirst : Obligations.OwedFirst := by
  intro s t
  have frame := drainApu_frame s
  obtain ⟨-, apuCycle, settled⟩ := drainApu_keeps s
  refine ⟨?_, apuCycle, frame.2, frame.sameMemory, step_of_owed⟩
  rw [← settled]
  exact frame.1

/-- Settles O8: no event but Reset changes what halts the machine. -/
theorem haltedStuck : Obligations.HaltedStuck := by
  intro s r h
  refine ⟨fun noReset => ?_, fun events => deliverBoundary_revives⟩
  rw [step_of_halted h, cpuStep_of_halted ((deliverBoundary_halted noReset).trans h)]

/-- Settles O6: the three choices at a boundary, each excluding the ones before it. -/
theorem arbitration : Obligations.Arbitration := by
  intro s u ready boundary running
  rw [step_of_ready ready, boundary]
  refine ⟨cpuStep_of_nmi running, cpuStep_of_irq running, fun noNmi masked => ?_⟩
  refine cpuStep_of_no_interrupt running noNmi ?_
  obtain low | masked := masked
  · exact Bool.and_eq_false_iff.2 (.inl low)
  · rw [masked, Bool.not_true, Bool.and_false]

/-- Settles O15: both entries are the one of `enterInterrupt`, whose three pushes are all that changes in memory. -/
theorem interruptEntry : Obligations.InterruptEntry := by
  intro s _ hc ram
  refine ⟨fun l h hl hh => ?_, fun l h hl hh => ?_⟩
  · have entry := nmiEntry_of_canPush hc hl hh
    exact ⟨entry, changedOnlyAt_pushed [_, _, _] (by rw [entry]; rfl) (by rw [entry]; rfl)⟩
  · have entry := irqEntry_of_canPush hc hl hh
    exact ⟨entry, changedOnlyAt_pushed [_, _, _] (by rw [entry]; rfl) (by rw [entry]; rfl)⟩

/-- Settles O13: the reset procedure where storage answers at its vector. -/
theorem resetResult : Obligations.ResetResult := fun _ _ _ => resetProcedure_of_peek
end

section
/-! The audio registers: what a write of each does to its channel in numbers, the frame sequencer's register, and the status
register. -/

namespace Sys2Proof.Machine

/-! ## The channels' registers in numbers -/

/-- The low nibble of a byte, as a field. -/
theorem lowNibble_eq (v : Byte) : v.toNat % 16 = v.toNat / 2 ^ 0 % 2 ^ 4 := by omega

/-- The length table, indexed by the top five bits (R340, R347). -/
theorem lengthOf_eq (v : Byte) : lengthOf v = lengthTable.getD (v.toNat / 2 ^ 3 % 2 ^ 5) 0 := by
  have := v.isLt
  rw [lengthOf, show v.toNat / 8 = v.toNat / 2 ^ 3 % 2 ^ 5 by omega]

theorem Envelope.control_eq (e : Envelope) (v : Byte) :
    e.control v =
      { e with halt := v.getLsbD 5, constVol := v.getLsbD 4, vol := BitVec.ofNat 4 (v.toNat / 2 ^ 0 % 2 ^ 4) } := by
  rw [Envelope.control, field_eq]

theorem Pulse.writeControl_eq (p : Pulse) (v : Byte) :
    p.writeControl v =
      { p with
        duty := BitVec.ofNat 2 (v.toNat / 2 ^ 6 % 2 ^ 2)
        env := { p.env with
          halt := v.getLsbD 5, constVol := v.getLsbD 4, vol := BitVec.ofNat 4 (v.toNat / 2 ^ 0 % 2 ^ 4) } } := by
  rw [Pulse.writeControl, field_eq, Envelope.control_eq]

theorem Pulse.writeSweep_eq (p : Pulse) (v : Byte) :
    p.writeSweep v =
      { p with
        sweepEnable := v.getLsbD 7, sweepPeriod := BitVec.ofNat 3 (v.toNat / 2 ^ 4 % 2 ^ 3), sweepNegate := v.getLsbD 3
        sweepShift := BitVec.ofNat 3 (v.toNat / 2 ^ 0 % 2 ^ 3), sweepReload := true } := by
  rw [Pulse.writeSweep, field_eq, field_eq]

theorem Pulse.writeTimerLow_eq (p : Pulse) (v : Byte) :
    p.writeTimerLow v = { p with timerPeriod := BitVec.ofNat 11 (p.timerPeriod.toNat / 256 * 256 + v.toNat) } := by
  rw [Pulse.writeTimerLow, timerLow_eq]

theorem Pulse.writeTimerHigh_eq (p : Pulse) (v : Byte) :
    p.writeTimerHigh v =
      { p with
        timerPeriod := BitVec.ofNat 11 (v.toNat / 2 ^ 0 % 2 ^ 3 * 256 + p.timerPeriod.toNat % 256)
        length := if p.enabled = true then lengthTable.getD (v.toNat / 2 ^ 3 % 2 ^ 5) 0 else p.length
        dutyPos := 0, env := { p.env with start := true } } := by
  rw [Pulse.writeTimerHigh, timerHigh_eq, lengthOf_eq]

theorem Triangle.writeLinear_eq (t : Triangle) (v : Byte) :
    t.writeLinear v =
      { t with control := v.getLsbD 7, linearReloadValue := BitVec.ofNat 7 (v.toNat / 2 ^ 0 % 2 ^ 7) } := by
  rw [Triangle.writeLinear, field_eq]

theorem Triangle.writeTimerLow_eq (t : Triangle) (v : Byte) :
    t.writeTimerLow v = { t with timerPeriod := BitVec.ofNat 11 (t.timerPeriod.toNat / 256 * 256 + v.toNat) } := by
  rw [Triangle.writeTimerLow, timerLow_eq]

theorem Triangle.writeTimerHigh_eq (t : Triangle) (v : Byte) :
    t.writeTimerHigh v =
      { t with
        timerPeriod := BitVec.ofNat 11 (v.toNat / 2 ^ 0 % 2 ^ 3 * 256 + t.timerPeriod.toNat % 256)
        length := if t.enabled = true then lengthTable.getD (v.toNat / 2 ^ 3 % 2 ^ 5) 0 else t.length
        linearReload := true } := by
  rw [Triangle.writeTimerHigh, timerHigh_eq, lengthOf_eq]

theorem Noise.writeControl_eq (n : Noise) (v : Byte) :
    n.writeControl v =
      { n with env := { n.env with
          halt := v.getLsbD 5, constVol := v.getLsbD 4, vol := BitVec.ofNat 4 (v.toNat / 2 ^ 0 % 2 ^ 4) } } := by
  rw [Noise.writeControl, Envelope.control_eq]

theorem Noise.writePeriod_eq (n : Noise) (v : Byte) :
    n.writePeriod v =
      { n with
        mode := v.getLsbD 7
        timerPeriod := BitVec.ofNat 12 (noisePeriod.getD (v.toNat / 2 ^ 0 % 2 ^ 4) 0 / 2 - 1) } := by
  rw [Noise.writePeriod, lowNibble_eq]

theorem Noise.writeLength_eq (n : Noise) (v : Byte) :
    n.writeLength v =
      { n with
        length := if n.enabled = true then lengthTable.getD (v.toNat / 2 ^ 3 % 2 ^ 5) 0 else n.length
        env := { n.env with start := true } } := by
  rw [Noise.writeLength, lengthOf_eq]

theorem Dmc.writeRate_eq (d : Dmc) (v : Byte) :
    d.writeRate v =
      { d with
        irqEnable := v.getLsbD 7, loop := v.getLsbD 6
        timerPeriod := BitVec.ofNat 8 (dmcRate.getD (v.toNat / 2 ^ 0 % 2 ^ 4) 0 / 2 - 1) } := by
  rw [Dmc.writeRate, lowNibble_eq]

theorem Dmc.writeLevel_eq (d : Dmc) (v : Byte) :
    d.writeLevel v = { d with level := BitVec.ofNat 7 (v.toNat / 2 ^ 0 % 2 ^ 7) } := by
  rw [Dmc.writeLevel, field_eq]

/-! ## A channel replaced -/

/-- `s` with one pulse channel replaced. -/
def State.withPulse1 (s : State) (p : Pulse) : State := { s with apu := { s.apu with pulse1 := p } }

/-- `s` with the other pulse channel replaced. -/
def State.withPulse2 (s : State) (p : Pulse) : State := { s with apu := { s.apu with pulse2 := p } }

/-- `s` with its triangle channel replaced. -/
def State.withTri (s : State) (t : Triangle) : State := { s with apu := { s.apu with tri := t } }

/-- `s` with its noise channel replaced. -/
def State.withNoise (s : State) (n : Noise) : State := { s with apu := { s.apu with noise := n } }

/-- `s` with its delta-modulation channel and that channel's interrupt replaced. -/
def State.withDmc (s : State) (d : Dmc) (irq : Bool) : State := { s with apu := { s.apu with dmc := d, dmcIrq := irq } }

/-! ## Clocking the frame's units -/

theorem clockLength_eq (halt : Bool) (n : BitVec 8) : clockLength halt n = dropLength halt n := by
  unfold clockLength dropLength
  cases halt
  · by_cases zero : n = 0
    · rw [zero]
      rfl
    · rw [if_pos ⟨rfl, zero⟩, countDown_eq n zero]
      rfl
  · rw [if_neg (by simp), if_pos rfl, BitVec.ofNat_toNat, BitVec.setWidth_eq]

theorem Triangle.clockLinear_eq (t : Triangle) :
    t.clockLinear =
      { t with
        linear := if t.linearReload = true then t.linearReloadValue else BitVec.ofNat 7 (t.linear.toNat - 1)
        linearReload := t.linearReload && t.control } := by
  have drop : (if t.linear ≠ 0 then t.linear - 1 else t.linear) = BitVec.ofNat 7 (t.linear.toNat - 1) := by
    by_cases zero : t.linear = 0
    · rw [zero]
      rfl
    · rw [if_pos zero, countDown_eq _ zero]
  rw [Triangle.clockLinear, drop, Bool.and_comm]

theorem Apu.clockEnvelopes_eq (u : Apu) : u.clockEnvelopes = u.withEnvelopes := by
  rw [Apu.clockEnvelopes, Triangle.clockLinear_eq]
  rfl

theorem Apu.clockSweepsAndLengths_eq (u : Apu) : u.clockSweeps.clockLengths = u.withSweepsAndLengths := by
  simp only [Apu.clockLengths, clockLength_eq]
  rfl

/-- The frame sequencer's register: in 5-step mode everything is clocked once at once (R346). -/
theorem Apu.writeFrame_cases (u : Apu) (v : Byte) :
    let w := { u with
      frameMode := v.getLsbD 7, frameInhibit := v.getLsbD 6, frameStep := 0
      frameIrq := if v.getLsbD 6 = true then false else u.frameIrq }
    u.writeFrame v = if v.getLsbD 7 = true then w.withEnvelopes.withSweepsAndLengths else w := by
  have irq : (u.frameIrq && !v.getLsbD 6) = if v.getLsbD 6 = true then false else u.frameIrq := by
    cases v.getLsbD 6 <;> simp
  unfold Apu.writeFrame
  dsimp only
  rw [irq, Apu.clockEnvelopes_eq, Apu.clockSweepsAndLengths_eq]

/-! ## The status register -/

theorem Dmc.writeEnable_eq (d : Dmc) (on : Bool) :
    d.writeEnable on =
      if on = false then { d with bytesLeft := 0 }
      else if d.bytesLeft = 0 then { d with curAddr := d.sampleAddr, bytesLeft := d.sampleLen }
      else d := by
  cases on <;> rfl

/-- Eight bits as a number, the fifth from the left clear (R345). -/
theorem statusBits_toNat (dmcIrq frameIrq dmc noise tri pulse2 pulse1 : Bool) :
    (BitVec.ofBool dmcIrq ++ BitVec.ofBool frameIrq ++ 0#1 ++ BitVec.ofBool dmc ++ BitVec.ofBool noise ++
      BitVec.ofBool tri ++ BitVec.ofBool pulse2 ++ BitVec.ofBool pulse1 : Byte).toNat =
      pulse1.toNat + 2 * pulse2.toNat + 4 * tri.toNat + 8 * noise.toNat + 16 * dmc.toNat + 64 * frameIrq.toNat +
        128 * dmcIrq.toNat := by
  revert dmcIrq frameIrq dmc noise tri pulse2 pulse1
  decide

/-- A bit of the status byte in its place. -/
theorem mul_toNat_bool (k : Nat) (b : Bool) : k * b.toNat = if b then k else 0 := by cases b <;> simp

/-- The status byte in numbers (R345). -/
theorem Apu.statusByte_toNat (u : Apu) :
    u.statusByte.toNat =
      (if u.pulse1.length = 0 then 0 else 1) + (if u.pulse2.length = 0 then 0 else 2) +
      (if u.tri.length = 0 then 0 else 4) + (if u.noise.length = 0 then 0 else 8) +
      (if u.dmc.bytesLeft = 0 then 0 else 16) + (if u.frameIrq then 64 else 0) + (if u.dmcIrq then 128 else 0) := by
  rw [Apu.statusByte, statusBits_toNat, ← Nat.one_mul (u.pulse1.length != 0).toNat]
  simp only [mul_toNat_bool, bne_iff_ne, ne_eq, ite_not]

end Sys2Proof.Machine

open Sys2Proof Sys2Proof.Machine

/-- Settles O54: each register's write is a channel replaced, its fields worked out in numbers. -/
theorem audioRegisters : Obligations.AudioRegisters := by
  intro s v u
  have dmcIrq : (u.dmcIrq && v.getLsbD 7) = if v.getLsbD 7 = false then false else u.dmcIrq := by
    cases v.getLsbD 7 <;> simp
  refine ⟨congrArg s.withPulse1 (u.pulse1.writeControl_eq v), congrArg s.withPulse2 (u.pulse2.writeControl_eq v),
    congrArg s.withPulse1 (u.pulse1.writeSweep_eq v), congrArg s.withPulse2 (u.pulse2.writeSweep_eq v),
    congrArg s.withPulse1 (u.pulse1.writeTimerLow_eq v), congrArg s.withPulse2 (u.pulse2.writeTimerLow_eq v),
    congrArg s.withPulse1 (u.pulse1.writeTimerHigh_eq v), congrArg s.withPulse2 (u.pulse2.writeTimerHigh_eq v),
    congrArg s.withTri (u.tri.writeLinear_eq v), congrArg s.withTri (u.tri.writeTimerLow_eq v),
    congrArg s.withTri (u.tri.writeTimerHigh_eq v), congrArg s.withNoise (u.noise.writeControl_eq v),
    congrArg s.withNoise (u.noise.writePeriod_eq v), congrArg s.withNoise (u.noise.writeLength_eq v),
    congrArg₂ s.withDmc (u.dmc.writeRate_eq v) dmcIrq, congrArg (s.withDmc · u.dmcIrq) (u.dmc.writeLevel_eq v), rfl, rfl⟩

/-- Settles O57: the immediate clock of 5-step mode is the clocks' in numbers. -/
theorem frameWrite : Obligations.FrameWrite :=
  fun s v => congrArg (fun u => { s with apu := u }) (s.apu.writeFrame_cases v)

/-- Settles O60: the enables as written, the sample's start and stop by cases, and the byte read as a sum of its bits. -/
theorem statusRegister : Obligations.StatusRegister := by
  intro s v
  refine ⟨?_, rfl, s.apu.statusByte_toNat⟩
  intro len
  rw [← Dmc.writeEnable_eq]
  rfl
end

section
/-! The audio unit's clocks in numbers: the envelope, the sweep, the five timers, and the frame sequencer. -/

namespace Sys2Proof.Machine

/-! ## Counters in numbers -/

/-- A counter counts up and wraps. -/
theorem countUp_eq {w : Nat} (n : BitVec w) (m : Nat) (hm : m = 2 ^ w) : n + 1 = BitVec.ofNat w ((n.toNat + 1) % m) := by
  apply BitVec.eq_of_toNat_eq
  rw [hm, BitVec.toNat_ofNat, Nat.mod_mod, BitVec.toNat_add]
  simp

theorem ne_zero_iff {w : Nat} (n : BitVec w) : n ≠ 0 ↔ 0 < n.toNat := by
  rw [ne_eq, eq_zero_iff, Nat.pos_iff_ne_zero]

/-! ## The envelope -/

theorem Envelope.clock_of_start {e : Envelope} (h : e.start = true) :
    e.clock = { e with start := false, decay := 15, divider := e.vol } := by
  rw [Envelope.clock, if_pos h]

theorem Envelope.clock_of_divider {e : Envelope} (h : e.start = false) (divides : e.divider ≠ 0) :
    e.clock = { e with divider := BitVec.ofNat 4 (e.divider.toNat - 1) } := by
  rw [Envelope.clock, h, if_neg Bool.false_ne_true, if_neg divides, countDown_eq _ divides]

/-- The decay level counts down, and starts over at 0 where the envelope loops (R350). -/
theorem Envelope.decay_eq (e : Envelope) :
    (if e.decay ≠ 0 then e.decay - 1 else if e.halt then 15 else e.decay) =
      BitVec.ofNat 4 (if 0 < e.decay.toNat then e.decay.toNat - 1 else if e.halt = true then 15 else 0) := by
  by_cases zero : e.decay = 0
  · rw [zero]
    cases e.halt <;> rfl
  · rw [if_pos zero, if_pos ((ne_zero_iff _).1 zero), countDown_eq _ zero]

theorem Envelope.clock_of_fire {e : Envelope} (h : e.start = false) (fires : e.divider = 0) :
    e.clock = { e with
      divider := e.vol
      decay := BitVec.ofNat 4 (if 0 < e.decay.toNat then e.decay.toNat - 1 else if e.halt = true then 15 else 0) } := by
  rw [Envelope.clock, h, if_neg Bool.false_ne_true, if_pos fires, Envelope.decay_eq]

/-! ## The sweep -/

/-- The sweep moves the period where its divider fires, it is on and shifts, and the channel is not muted (R351). -/
theorem Pulse.clockSweep_moves_iff (first : Bool) (p : Pulse) :
    (p.sweepDivider = 0 ∧ p.sweepEnable = true ∧ p.sweepShift ≠ 0 ∧ p.muted first = false) ↔
      p.sweepDivider = 0 ∧ p.sweepEnable = true ∧ p.sweepShift ≠ 0 ∧ 8 ≤ p.timerPeriod.toNat ∧
        sweepTargetOf first p ≤ 0x7FF := by
  rw [← Bool.not_eq_true, p.muted_iff, not_or, Nat.not_lt, Nat.not_lt]

theorem Pulse.clockSweep_timerPeriod (first : Bool) (p : Pulse) :
    (p.clockSweep first).timerPeriod.toNat =
      if p.sweepDivider = 0 ∧ p.sweepEnable = true ∧ p.sweepShift ≠ 0 ∧ 8 ≤ p.timerPeriod.toNat ∧
          sweepTargetOf first p ≤ 0x7FF then
        sweepTargetOf first p
      else p.timerPeriod.toNat := by
  rw [Pulse.clockSweep]
  simp only [p.clockSweep_moves_iff, p.sweepTarget_eq]
  split
  · next moves =>
    obtain ⟨-, -, -, -, inRange⟩ := moves
    exact Nat.mod_eq_of_lt (Nat.lt_succ_of_le inRange)
  · rfl

/-- A clock leaves no reload pending (R351). -/
theorem Pulse.clockSweep_sweepReload (first : Bool) (p : Pulse) : (p.clockSweep first).sweepReload = false := by
  rw [Pulse.clockSweep]
  dsimp only
  split
  · rfl
  · next kept => exact Bool.eq_false_iff.2 (not_or.1 kept).2

/-! ## The timers -/

theorem Pulse.clockTimer_eq (p : Pulse) :
    p.clockTimer =
      if p.timerCounter.toNat = 0 then
        { p with timerCounter := p.timerPeriod, dutyPos := BitVec.ofNat 3 ((p.dutyPos.toNat + 1) % 8) }
      else { p with timerCounter := BitVec.ofNat 11 (p.timerCounter.toNat - 1) } := by
  rw [Pulse.clockTimer, ← countUp_eq _ 8 rfl]
  simp only [← eq_zero_iff]
  split
  · rfl
  · next counts => rw [countDown_eq _ counts]

/-- The triangle's sequence goes on while both of its counters do (R353). -/
theorem Triangle.clockTimer_eq (t : Triangle) :
    t.clockTimer =
      if t.timerCounter.toNat = 0 then
        { t with
          timerCounter := t.timerPeriod
          seqPos :=
            if 0 < t.length.toNat ∧ 0 < t.linear.toNat then BitVec.ofNat 5 ((t.seqPos.toNat + 1) % 32) else t.seqPos }
      else { t with timerCounter := BitVec.ofNat 11 (t.timerCounter.toNat - 1) } := by
  rw [Triangle.clockTimer, ← countUp_eq _ 32 rfl]
  simp only [← eq_zero_iff, ← ne_zero_iff]
  split
  · rfl
  · next counts => rw [countDown_eq _ counts]

/-- A register shifted right with a bit entering at the top (R353). -/
theorem shiftIn_eq (n : BitVec 15) (b : Bool) :
    n >>> 1 ||| (BitVec.ofBool b).setWidth 15 <<< 14 = BitVec.ofNat 15 (n.toNat / 2 + 16384 * b.toNat) := by
  have := n.isLt
  have bit := b.toNat_le
  have half : n.toNat / 2 < 2 ^ 14 := by omega
  have top : b.toNat <<< 14 % 2 ^ 15 = b.toNat <<< 14 := by rw [Nat.shiftLeft_eq]; omega
  apply BitVec.eq_of_toNat_eq
  rw [BitVec.toNat_or, BitVec.toNat_ushiftRight, Nat.shiftRight_one, BitVec.toNat_shiftLeft, BitVec.toNat_setWidth,
    BitVec.toNat_ofBool, Nat.mod_eq_of_lt (show b.toNat < 2 ^ 15 by omega), top, Nat.or_comm,
    ← Nat.shiftLeft_add_eq_or_of_lt half, BitVec.toNat_ofNat, Nat.shiftLeft_eq]
  omega

theorem getLsbD_toNat {w : Nat} (n : BitVec w) (i : Nat) : (n.getLsbD i).toNat = n.toNat / 2 ^ i % 2 :=
  Nat.toNat_testBit _ _

/-- The bit fed back is the sum of the two taps (R353). -/
theorem Noise.shifted_eq (n : Noise) :
    n.shifted =
      BitVec.ofNat 15 (n.lfsr.toNat / 2 +
        16384 * ((n.lfsr.toNat % 2 + n.lfsr.toNat / 2 ^ (if n.mode = true then 6 else 1) % 2) % 2)) := by
  have xor (a b : Bool) : (a ^^ b).toNat = (a.toNat + b.toNat) % 2 := by cases a <;> cases b <;> rfl
  have tap : (if n.mode then n.lfsr.getLsbD 6 else n.lfsr.getLsbD 1) = n.lfsr.getLsbD (if n.mode = true then 6 else 1) := by
    cases n.mode <;> rfl
  rw [Noise.shifted, tap, shiftIn_eq, xor, getLsbD_toNat, getLsbD_toNat, pow_zero, Nat.div_one]

theorem Noise.clockTimer_eq (n : Noise) :
    n.clockTimer =
      if n.timerCounter.toNat = 0 then
        { n with
          timerCounter := n.timerPeriod
          lfsr := BitVec.ofNat 15 (n.lfsr.toNat / 2 +
            16384 * ((n.lfsr.toNat % 2 + n.lfsr.toNat / 2 ^ (if n.mode = true then 6 else 1) % 2) % 2)) }
      else { n with timerCounter := BitVec.ofNat 12 (n.timerCounter.toNat - 1) } := by
  rw [Noise.clockTimer, ← n.shifted_eq]
  simp only [← eq_zero_iff]
  split
  · rfl
  · next counts => rw [countDown_eq _ counts]

/-- The output level goes up or down by 2 within its range (R353). -/
theorem Dmc.level_eq (d : Dmc) :
    (if d.shift.getLsbD 0 then (if d.level.toNat ≤ 125 then d.level + 2 else d.level)
      else if 2 ≤ d.level.toNat then d.level - 2 else d.level) =
      BitVec.ofNat 7
        (if d.shift.toNat % 2 = 1 then (if d.level.toNat ≤ 125 then d.level.toNat + 2 else d.level.toNat)
         else if 2 ≤ d.level.toNat then d.level.toNat - 2 else d.level.toNat) := by
  have kept : d.level = BitVec.ofNat 7 d.level.toNat := by rw [BitVec.ofNat_toNat, BitVec.setWidth_eq]
  simp only [getLsbD_zero, decide_eq_true_eq]
  split <;> split
  · rfl
  · exact kept
  · next lower =>
    have := d.level.isLt
    apply BitVec.eq_of_toNat_eq
    rw [BitVec.toNat_sub, BitVec.toNat_ofNat, show (2 : BitVec 7).toNat = 2 from rfl]
    omega
  · exact kept

theorem Dmc.clockTimer_eq (d : Dmc) :
    d.clockTimer =
      if d.timerCounter.toNat ≠ 0 then { d with timerCounter := BitVec.ofNat 8 (d.timerCounter.toNat - 1) }
      else if d.bitsLeft.toNat = 0 then { d with timerCounter := d.timerPeriod }
      else
        { d with
          timerCounter := d.timerPeriod
          level := BitVec.ofNat 7
            (if d.shift.toNat % 2 = 1 then (if d.level.toNat ≤ 125 then d.level.toNat + 2 else d.level.toNat)
             else if 2 ≤ d.level.toNat then d.level.toNat - 2 else d.level.toNat)
          shift := BitVec.ofNat 8 (d.shift.toNat / 2), bitsLeft := BitVec.ofNat 4 (d.bitsLeft.toNat - 1) } := by
  rw [Dmc.clockTimer, ite_not, ← d.level_eq, ← shiftRight_eq]
  simp only [← eq_zero_iff]
  split
  · unfold Dmc.fire
    dsimp only
    split
    · rfl
    · next fires => rw [countDown_eq _ fires]; rfl
  · next counts => rw [countDown_eq _ counts]

/-! ## The frame sequencer -/

/-- The table of the frame steps: all but the fourth of 5-step mode clock the envelopes, the second and the last clock sweeps and
lengths, and the last of 4-step mode asks for the interrupt (R355). -/
theorem frameActions_eq {mode : Bool} {step : BitVec 3} (h : step.toNat < frameSteps mode) :
    frameActions mode step =
      { envelopes := !decide (mode = true ∧ step.toNat = 3)
        sweepsAndLengths := decide (step.toNat = 1 ∨ step.toNat = frameSteps mode - 1)
        irq := !mode && step.toNat == 3 } := by
  revert mode step
  decide

/-- A step within the mode is followed by the next, the last by the first (R355). -/
theorem frameStep_next {mode : Bool} {n : Nat} (h : n < frameSteps mode) :
    (n + 1) % frameSteps mode = if n = frameSteps mode - 1 then 0 else n + 1 := by
  split
  · next last => rw [last, Nat.sub_add_cancel (Nat.one_le_of_lt h), Nat.mod_self]
  · exact Nat.mod_eq_of_lt (by omega)

end Sys2Proof.Machine

open Sys2Proof Sys2Proof.Machine

/-- Settles O55: each clock in numbers; the sweep's other two fields are the model's own. -/
theorem channelClocks : Obligations.ChannelClocks := by
  refine ⟨fun e => ⟨Envelope.clock_of_start, Envelope.clock_of_divider, Envelope.clock_of_fire⟩, fun first p => ?_,
    Pulse.clockTimer_eq, Triangle.clockTimer_eq, Noise.clockTimer_eq, Dmc.clockTimer_eq⟩
  intro n change target moves
  have reload := p.clockSweep_sweepReload first
  refine ⟨?_, rfl, reload, ?_⟩
  · rw [p.clockSweep_timerPeriod]
    simp only [moves, decide_eq_true_eq]
    rfl
  · rw [← reload]
    rfl

/-- Settles O56: the table's row decides what is clocked, the clocks are those in numbers, and the next step is a remainder. -/
theorem frameSequencer : Obligations.FrameSequencer := by
  intro u h n last first second
  have steps : last = frameSteps u.frameMode - 1 := by
    unfold frameSteps last
    split <;> rfl
  have next : (n + 1) % frameSteps u.frameMode = if n = last then 0 else n + 1 := by rw [steps]; exact frameStep_next h
  unfold Apu.frameClock
  rw [frameActions_eq h, ← steps, ← next]
  simp only [Apu.clockEnvelopes_eq, Apu.clockSweepsAndLengths_eq, Bool.not_eq_true', decide_eq_false_iff_not,
    decide_eq_true_eq, ite_not]
  rfl
end

section
/-! One APU step: the delta-modulation reader, the timers in their order, the two checkpoints, and the sample that is mixed and
filtered. -/

namespace Sys2Proof.Machine

/-! ## The delta-modulation reader -/

theorem dmcReader_idle {s : State} (h : s.apu.dmc.bytesLeft = 0 ∨ s.apu.dmc.bitsLeft ≠ 0) : dmcReader s = s := by
  rw [dmcReader, if_neg]
  rintro ⟨bytes, bits⟩
  exact h.elim bytes fun held => held bits

/-- The fetch takes the sample's last byte just where one byte was left (R349). -/
theorem sub_one_eq_zero_iff (n : BitVec 12) : n - 1 = 0 ↔ n.toNat = 1 := by
  rw [sub_eq_zero, ← BitVec.toNat_inj]
  rfl

/-- The channel after its reader, which starts a looping sample over at its end (R349). -/
theorem Dmc.fetched_eq (d : Dmc) (v : Byte) :
    d.fetched v = { d with
      shift := v, bitsLeft := 8
      curAddr := if d.bytesLeft.toNat = 1 ∧ d.loop = true then d.sampleAddr else nextSampleAddr d.curAddr
      bytesLeft := if d.bytesLeft.toNat = 1 ∧ d.loop = true then d.sampleLen else d.bytesLeft - 1 } := by
  unfold Dmc.fetched
  dsimp only
  simp only [sub_one_eq_zero_iff]
  split <;> rfl

theorem Dmc.endsSample_eq (d : Dmc) :
    d.endsSample = (decide (d.bytesLeft.toNat = 1) && !d.loop && d.irqEnable) := by
  simp only [← sub_one_eq_zero_iff]
  rfl

/-- Where storage answers, the reader changes the channel, its interrupt and the stall alone (R349). -/
theorem dmcReader_of_peek {s : State} {v : Byte} (bytes : s.apu.dmc.bytesLeft ≠ 0) (bits : s.apu.dmc.bitsLeft = 0)
    (hv : s.peek s.apu.dmc.curAddr = some v) :
    dmcReader s = { s with
      stall := s.stall + 4
      apu := { s.apu with
        dmc := s.apu.dmc.fetched v, dmcIrq := s.apu.dmcIrq || s.apu.dmc.endsSample } } := by
  rw [dmcReader, if_pos ⟨bytes, bits⟩, busRead_of_peek hv]

/-! ## The timers -/

/-- The audio unit after the timers clocked every other cycle (R352, R353). -/
def Apu.withSlowTimers (u : Apu) : Apu :=
  { u with
    pulse1 := u.pulse1.clockTimer, pulse2 := u.pulse2.clockTimer, noise := u.noise.clockTimer, dmc := u.dmc.clockTimer }

/-- `s` after its delta-modulation timer is clocked, which the model does after the reader. -/
def State.clockDmc (s : State) : State := { s with apu := { s.apu with dmc := s.apu.dmc.clockTimer } }

/-- The reader may be taken to run before the three timers that the model clocks first, on the state before the step was counted
(R349, R353). -/
theorem clockSlowTimers_counted (s : State) (owed cycle : Nat) :
    clockSlowTimers { s with apuOwed := owed, apu := { s.apu with apuCycle := cycle } } =
      { dmcReader s with
        apuOwed := owed, apu := ({ (dmcReader s).apu with apuCycle := cycle } : Apu).withSlowTimers } := by
  have reader := dmcReader_withChannels s owed cycle s.apu.pulse1.clockTimer_length s.apu.pulse2.clockTimer_length
    s.apu.noise.clockTimer_length
  obtain ⟨pulse1, pulse2, noise, -⟩ := dmcReader_channels s
  change (dmcReader (s.withChannels owed cycle _ _ _)).clockDmc = _
  rw [reader, ← pulse1, ← pulse2, ← noise]
  rfl

/-! ## The checkpoints -/

theorem checkpoint_iff (rate c : Nat) : checkpoint rate c = true ↔ c * rate / 1789773 ≠ (c + 1) * rate / 1789773 :=
  bne_iff_ne

theorem frameCheckpoint_eq (c : Nat) (s : State) :
    frameCheckpoint c s = { s with
      apu := if c * 240 / 1789773 ≠ (c + 1) * 240 / 1789773 then s.apu.frameClock else s.apu } := by
  unfold frameCheckpoint
  simp only [checkpoint_iff, frameRate]
  split <;> rfl

theorem sampleCheckpoint_eq (c : Nat) (s : State) :
    sampleCheckpoint c s = { s with
      apu := if c * 44100 / 1789773 ≠ (c + 1) * 44100 / 1789773 then s.apu.afterSample else s.apu
      outputs :=
        if c * 44100 / 1789773 ≠ (c + 1) * 44100 / 1789773 then .audioSample s.apu.sample :: s.outputs
        else s.outputs } := by
  unfold sampleCheckpoint
  simp only [checkpoint_iff, sampleRate]
  split <;> rfl

/-- After a checkpoint the quotient stays what it became for as many steps as fit in one unit (R352). -/
theorem quotient_after_checkpoint {rate c k : Nat} (h : checkpoint rate c = true) (fits : (k + 1) * rate ≤ cpuFreq) :
    (c + k + 1) * rate / cpuFreq = (c + 1) * rate / cpuFreq := by
  have below : c * rate < (c + 1) * rate / cpuFreq * cpuFreq := by
    rw [← Nat.div_lt_iff_lt_mul (by decide)]
    exact Nat.lt_of_le_of_ne (Nat.div_le_div_right (Nat.mul_le_mul_right _ (Nat.le_succ c))) (bne_iff_ne.1 h)
  apply Nat.div_eq_of_lt_le
  · calc (c + 1) * rate / cpuFreq * cpuFreq
      _ ≤ (c + 1) * rate := Nat.div_mul_le_self _ _
      _ ≤ (c + k + 1) * rate := Nat.mul_le_mul_right _ (by omega)
  · calc (c + k + 1) * rate
      _ = c * rate + (k + 1) * rate := by rw [Nat.add_assoc, Nat.add_mul]
      _ < (c + 1) * rate / cpuFreq * cpuFreq + cpuFreq := Nat.add_lt_add_of_lt_of_le below fits
      _ = ((c + 1) * rate / cpuFreq + 1) * cpuFreq := (Nat.succ_mul _ _).symm

/-- The quotient has moved on after as many steps as make up one unit. -/
theorem quotient_moves {rate c k : Nat} (full : cpuFreq ≤ k * rate) :
    c * rate / cpuFreq ≠ (c + k) * rate / cpuFreq := by
  apply Nat.ne_of_lt
  rw [Nat.add_mul, Nat.lt_iff_add_one_le, Nat.le_div_iff_mul_le (by decide), Nat.add_mul, Nat.one_mul]
  exact Nat.add_le_add (Nat.div_mul_le_self _ _) full

/-- With between `m` and `m + 1` steps to the unit, a checkpoint follows the last after `m` or `m + 1` steps (R352). -/
theorem checkpoint_spacing {rate m c : Nat} (h : checkpoint rate c = true) (low : (m + 1) * rate ≤ cpuFreq)
    (high : cpuFreq ≤ (m + 2) * rate) :
    (checkpoint rate (c + (m + 1)) = true ∨ checkpoint rate (c + (m + 2)) = true) ∧
    ∀ k : Nat, 0 < k → k < m + 1 → ¬ checkpoint rate (c + k) = true := by
  unfold checkpoint
  simp only [bne_iff_ne]
  have stays {k : Nat} (hk : k ≤ m) : (c + k + 1) * rate / cpuFreq = (c + 1) * rate / cpuFreq :=
    quotient_after_checkpoint h ((Nat.mul_le_mul_right _ (by omega)).trans low)
  refine ⟨?_, fun k pos small => ?_⟩
  · by_contra never
    rw [not_or, not_ne_iff, not_ne_iff] at never
    obtain ⟨first, second⟩ := never
    have moves := quotient_moves (c := c + 1) high
    rw [← stays (Nat.le_refl m), show c + 1 + (m + 2) = c + (m + 2) + 1 by omega] at moves
    exact moves (first.trans second)
  · obtain ⟨j, rfl⟩ := Nat.exists_eq_add_of_le' pos
    rw [not_ne_iff, ← Nat.add_assoc, stays (by omega), Nat.add_assoc c, stays (by omega)]

/-- On an odd count the reader runs, and then all five timers (R352, R353). -/
theorem apuStep_of_odd {s : State} (odd : s.apu.apuCycle % 2 = 1) :
    apuStep s = sampleCheckpoint s.apu.apuCycle (frameCheckpoint s.apu.apuCycle { dmcReader s with
      apuOwed := s.apuOwed - 1
      apu := ({ (dmcReader s).apu with
        apuCycle := s.apu.apuCycle + 1, tri := (dmcReader s).apu.tri.clockTimer } : Apu).withSlowTimers }) := by
  unfold apuStep
  dsimp only
  rw [if_pos (by omega), clockSlowTimers_counted]
  rfl

/-- On an even count the triangle's timer runs alone (R352). -/
theorem apuStep_of_even {s : State} (even : s.apu.apuCycle % 2 ≠ 1) :
    apuStep s = sampleCheckpoint s.apu.apuCycle (frameCheckpoint s.apu.apuCycle { s with
      apuOwed := s.apuOwed - 1
      apu := { s.apu with apuCycle := s.apu.apuCycle + 1, tri := s.apu.tri.clockTimer } }) := by
  unfold apuStep
  dsimp only
  rw [if_neg (by omega)]

/-! ## The sample -/

/-- The mixer is the exact one with each of its two tables rounded down (R357). -/
theorem Apu.mix_bounds (u : Apu) : (u.mix : ℚ) ≤ 2 ^ 32 * exactMix u ∧ 2 ^ 32 * exactMix u < u.mix + 2 := by
  unfold Apu.mix exactMix
  rw [Pulse.out_eq, Pulse.out_eq, Triangle.out_eq, Noise.out_eq]
  have pulses := pulseTable_bounds (pulseOutput true u.pulse1 + pulseOutput false u.pulse2)
  have others := tndTable_bounds (3 * triangleOutput u.tri + 2 * noiseOutput u.noise + u.dmc.level.toNat)
  push_cast at *
  constructor <;> linarith

/-- What `FilterCoeffs.near_of` asks of the coefficients is linear in π, and its bounds decide it (R359). -/
theorem coeffs_near : hp1Coeffs.Near true 90 ∧ hp2Coeffs.Near true 440 ∧ lpCoeffs.Near false 14000 := by
  have above := Real.pi_gt_d20
  have below := Real.pi_lt_d20
  refine ⟨FilterCoeffs.near_of (by norm_num) ?_ rfl ?_, FilterCoeffs.near_of (by norm_num) ?_ rfl ?_,
    FilterCoeffs.near_of (by norm_num) ?_ rfl ?_⟩
  all_goals
    rw [abs_le]
    norm_num [hp1Coeffs, hp2Coeffs, lpCoeffs]
    constructor <;> linarith

end Sys2Proof.Machine

open Sys2Proof Sys2Proof.Machine

/-- Settles O59: the reader's two cases; the byte is storage's answer. -/
theorem dmcReader : Obligations.DmcReader := by
  intro s
  refine ⟨dmcReader_idle, fun bytes bits v hv => ?_⟩
  intro last next
  rw [dmcReader_of_peek bytes bits hv, Dmc.fetched_eq, Dmc.endsSample_eq]
  rfl

/-- Settles O58: the model's order of the timers is the spec's, the checkpoints follow from the rates, and the sample is rounded
down at each stage. -/
theorem apuStep : Obligations.ApuStep := by
  refine ⟨fun s => ?_, fun c => ?_, fun u => ?_, coeffs_near⟩
  · intro c crosses r u slow
    by_cases odd : c % 2 = 1
    · rw [apuStep_of_odd odd, sampleCheckpoint_eq, frameCheckpoint_eq]
      simp only [slow, u, r, if_pos odd]
      rfl
    · rw [apuStep_of_even odd, sampleCheckpoint_eq, frameCheckpoint_eq]
      simp only [u, r, if_neg odd]
      rfl
  · simp only [← checkpoint_iff]
    exact ⟨fun h => checkpoint_spacing h (by decide) (by decide), fun h => checkpoint_spacing h (by decide) (by decide)⟩
  · obtain ⟨above, below⟩ := u.mix_bounds
    exact ⟨above, below, _, _, _, filterOut_rounds _ _ _, filterOut_rounds _ _ _, filterOut_rounds _ _ _, rfl, rfl⟩
end
